-- ==== Sys2Proof/Word.lean ====
section
/-! DEFINITION. The widths of R8 as types, the three colour channels and the colour triple. -/

namespace Sys2Proof

/-- A brightness value or the fade divisor: the channel width and `DIV_W` of R8. -/
abbrev Byte := BitVec 8

/-- 32 bits: the operand field of a word (R70), and `ROT_W`, `TIME_W`, `TICK_W` and the response register (R8, R32). -/
abbrev Word := BitVec 32

/-- `PRESS_W = 16` bits, the width of the press counter (R8). -/
abbrev PressCount := BitVec 16

/-- A quadrature sample `line1 : line2` (R8, glossary). -/
abbrev Sample := BitVec 2

/-- A quadrature signature (R8, R101). -/
abbrev Signature := BitVec 4

/-- The opcode field of an operation word (R70). -/
abbrev Opcode := BitVec 4

/-- A whole operation word `op[35:32] : data[31:0]` (R70). -/
abbrev OpWord := BitVec 36

/-- The colour channels (R8, R25). -/
inductive Channel where
  | r
  | g
  | b
  deriving DecidableEq, Repr

/-- One 8-bit value per channel: a colour triple, or the per-channel fields `x[R]`, `x[G]`, `x[B]` of R12. -/
structure Rgb where
  r : Byte
  g : Byte
  b : Byte
  deriving DecidableEq, Repr

/-- `x[c]` (R12). -/
def Rgb.get (x : Rgb) : Channel → Byte
  | .r => x.r
  | .g => x.g
  | .b => x.b

/-- `x[c] <- v` (R12). -/
def Rgb.set (x : Rgb) (c : Channel) (v : Byte) : Rgb :=
  match c with
  | .r => { x with r := v }
  | .g => { x with g := v }
  | .b => { x with b := v }

end Sys2Proof
end

