-- ==== Sys2Proof/Machine/Operands.lean ====
section
/-! DEFINITION. The fields of an operation word (R70, R72, R73) and their assembly. No operand is sign-extended or scaled. -/

namespace Sys2Proof.Machine

/-- `op = word[35:32]` (R70). -/
def opField (w : OpWord) : Opcode := w.extractLsb' 32 4

/-- `data = word[31:0]` (R70). -/
def dataField (w : OpWord) : Word := w.extractLsb' 0 32

/-- `r = data[23:16]` (R72). -/
def redField (d : Word) : Byte := d.extractLsb' 16 8

/-- `g = data[15:8]` (R72). -/
def greenField (d : Word) : Byte := d.extractLsb' 8 8

/-- `b = data[7:0]` (R72). -/
def blueField (d : Word) : Byte := d.extractLsb' 0 8

/-- `e = data[0]` (R73). -/
def enableField (d : Word) : BitVec 1 := d.extractLsb' 0 1

/-- `n = data[7:0]` (R73). -/
def divisorField (d : Word) : Byte := d.extractLsb' 0 8

/-- `s = data[1:0]` (R73). -/
def sampleField (d : Word) : Sample := d.extractLsb' 0 2

/-- `op : data` (R70). -/
def makeWord (op : Opcode) (d : Word) : OpWord := op ++ d

/-- `0x00 : r : g : b` (R72, R78). -/
def packRgb (r g b : Byte) : Word := 0#8 ++ r ++ g ++ b

/-- The bits of `data` that R73 lists for an opcode; every other bit is ignored (R75). -/
def operandMask (op : Opcode) : Word :=
  match op with
  | 0x2#4 => 0xFFFFFFFF#32
  | 0x4#4 => 0x00000001#32
  | 0x5#4 => 0x000000FF#32
  | 0x6#4 => 0x00FFFFFF#32
  | 0x7#4 => 0x00FFFFFF#32
  | 0x8#4 => 0x00FFFFFF#32
  | 0x9#4 => 0x00FFFFFF#32
  | 0xC#4 => 0x00000003#32
  | 0xD#4 => 0xFFFFFFFF#32
  | _ => 0#32

end Sys2Proof.Machine
end

