-- ==== Sys2Proof/Machine/Ports.lean ====
section
/-! DEFINITION. The agents of R6, what each input port of R7 carries for one operation, and the word the port logic forms from
it (R70). -/

namespace Sys2Proof

/-- The four agents that issue operations (R6). -/
inductive Agent where
  | host
  | encoder
  | button
  | tickSource
  deriving DecidableEq, Repr

/-- One operation as it stands at an input port (R7). -/
inductive Issue where
  /-- `cmd_valid` with `cmd_op` and `cmd_data`. -/
  | host (op : Opcode) (data : Word)
  /-- `qdec_ev` with `qdec_sample`. -/
  | encoder (sample : Sample)
  /-- `btn_ev` with `now`. -/
  | button (now : Word)
  /-- `tick_ev`. -/
  | tick
  deriving DecidableEq, Repr

namespace Machine

/-- The agent whose port an operation stands at (R6, R7). -/
def agentOf : Issue → Agent
  | .host _ _ => .host
  | .encoder _ => .encoder
  | .button _ => .button
  | .tick => .tickSource

/-- The operation word of an operation at a port: `cmd_op : cmd_data` from the host, formed by the port logic for an event
(R70), so that a port's opcode is 0xC, 0xD or 0xE by construction (R74). -/
def wordOf : Issue → OpWord
  | .host op data => makeWord op data
  | .encoder sample => makeWord 0xC#4 (sample.setWidth 32)
  | .button now => makeWord 0xD#4 now
  | .tick => makeWord 0xE#4 0#32

/-- The agent whose words select an opcode's row of the table (R74, "issued by"). -/
def issuerOfOpcode (op : Opcode) : Agent :=
  match op with
  | 0xC#4 => .encoder
  | 0xD#4 => .button
  | 0xE#4 => .tickSource
  | _ => .host

/-- The port input that carries a word of the table: its operand bits at the port of the agent the row names (R7, R74). -/
def issueOfWord (w : OpWord) : Issue :=
  match issuerOfOpcode (opField w) with
  | .host => .host (opField w) (dataField w)
  | .encoder => .encoder (sampleField (dataField w))
  | .button => .button (dataField w)
  | .tickSource => .tick

end Machine
end Sys2Proof
end

