-- ==== Sys2Proof/Syntax.lean ====
section
/-! DEFINITION. The operations of the block, one constructor per row of spec/opcode_table.json, with the operands of R73.
Reserved host words (R76) are no row of the table: the decoder rejects them by name and `step` performs them. -/

namespace Sys2Proof

/-- The twelve operations (R74). -/
inductive Instr where
  /-- RD_ROT (R141). -/
  | rdRot
  /-- WR_ROT (R142): `v`, s32. -/
  | wrRot (v : Word)
  /-- RDCLR_PRESS (R143). -/
  | rdclrPress
  /-- LED_OUT (R144): `e`, u1. -/
  | ledOut (e : BitVec 1)
  /-- SET_FADE (R145): `n`, u8. -/
  | setFade (n : Byte)
  /-- SET_COLOR (R146). -/
  | setColor (r g b : Byte)
  /-- SET_PRESS_COLOR (R147). -/
  | setPressColor (r g b : Byte)
  /-- SET_CW_COLOR (R148). -/
  | setCwColor (r g b : Byte)
  /-- SET_CCW_COLOR (R149). -/
  | setCcwColor (r g b : Byte)
  /-- QDEC_EDGE (R101): `sample`, u2, bit 1 is encoder line 1 and bit 0 encoder line 2. -/
  | qdecEdge (sample : Sample)
  /-- BTN_EDGE (R110): `now`, u32. -/
  | btnEdge (now : Word)
  /-- TICK (R120). -/
  | tick
  deriving DecidableEq, Repr

end Sys2Proof
end

