-- ==== Sys2Proof/WellFormed.lean ====
section
/-! DEFINITION. Which agent may issue an operation (R74, R77). The operand widths of R73 are in the types of Instr, and no
operand value is illegal (R75, R150), so this is the one check an operation can fail. -/

namespace Sys2Proof

/-- The only agent whose words select the operation (R74, "issued by"). -/
def Instr.issuer : Instr → Agent
  | .rdRot => .host
  | .wrRot _ => .host
  | .rdclrPress => .host
  | .ledOut _ => .host
  | .setFade _ => .host
  | .setColor _ _ _ => .host
  | .setPressColor _ _ _ => .host
  | .setCwColor _ _ _ => .host
  | .setCcwColor _ _ _ => .host
  | .qdecEdge _ => .encoder
  | .btnEdge _ => .button
  | .tick => .tickSource

/-- An operation is well formed as issued by `a` when `a` is the agent that may issue it: the host issues only host commands,
and only the ports issue events (R77, R177). -/
def WellFormed (a : Agent) (i : Instr) : Bool := decide (i.issuer = a)

end Sys2Proof
end

