-- ==== Sys2Proof/Decode.lean ====
section
/-! DEFINITION. Decoding an operation word from the agent it came from (R74 to R77), total, rejecting by name; then the encoder
(R73, R74, R78). -/

namespace Sys2Proof

/-- Why a word names no operation of the table. -/
inductive DecodeError where
  /-- A host word with a reserved opcode (R76, R77). -/
  | reservedHostOpcode (op : Opcode)
  /-- A port's word with an opcode its port logic never forms. It cannot arise (R74 "by construction"). -/
  | foreignPortOpcode (a : Agent) (op : Opcode)
  deriving DecidableEq, Repr

/-- A word of the host port: opcodes 0x1 to 0x9 select the commands, every other opcode is reserved (R74, R76). -/
def decodeHost (op : Opcode) (d : Word) : Except DecodeError Instr :=
  match op with
  | 0x1#4 => .ok .rdRot
  | 0x2#4 => .ok (.wrRot d)
  | 0x3#4 => .ok .rdclrPress
  | 0x4#4 => .ok (.ledOut (Machine.enableField d))
  | 0x5#4 => .ok (.setFade (Machine.divisorField d))
  | 0x6#4 => .ok (.setColor (Machine.redField d) (Machine.greenField d) (Machine.blueField d))
  | 0x7#4 => .ok (.setPressColor (Machine.redField d) (Machine.greenField d) (Machine.blueField d))
  | 0x8#4 => .ok (.setCwColor (Machine.redField d) (Machine.greenField d) (Machine.blueField d))
  | 0x9#4 => .ok (.setCcwColor (Machine.redField d) (Machine.greenField d) (Machine.blueField d))
  | _ => .error (.reservedHostOpcode op)

/-- The operation a word names when agent `a` issues it (R74). -/
def decode (a : Agent) (w : OpWord) : Except DecodeError Instr :=
  let op := Machine.opField w
  let d := Machine.dataField w
  match a with
  | .host => decodeHost op d
  | .encoder => if op = 0xC#4 then .ok (.qdecEdge (Machine.sampleField d)) else .error (.foreignPortOpcode a op)
  | .button => if op = 0xD#4 then .ok (.btnEdge d) else .error (.foreignPortOpcode a op)
  | .tickSource => if op = 0xE#4 then .ok .tick else .error (.foreignPortOpcode a op)

/-- The opcode of an operation (R74). -/
def opcodeOf : Instr → Opcode
  | .rdRot => 0x1#4
  | .wrRot _ => 0x2#4
  | .rdclrPress => 0x3#4
  | .ledOut _ => 0x4#4
  | .setFade _ => 0x5#4
  | .setColor _ _ _ => 0x6#4
  | .setPressColor _ _ _ => 0x7#4
  | .setCwColor _ _ _ => 0x8#4
  | .setCcwColor _ _ _ => 0x9#4
  | .qdecEdge _ => 0xC#4
  | .btnEdge _ => 0xD#4
  | .tick => 0xE#4

/-- The operand field of an operation, ignored bits written as 0 (R73, R78). -/
def operandOf : Instr → Word
  | .rdRot => 0#32
  | .wrRot v => v
  | .rdclrPress => 0#32
  | .ledOut e => e.setWidth 32
  | .setFade n => n.setWidth 32
  | .setColor r g b => Machine.packRgb r g b
  | .setPressColor r g b => Machine.packRgb r g b
  | .setCwColor r g b => Machine.packRgb r g b
  | .setCcwColor r g b => Machine.packRgb r g b
  | .qdecEdge sample => sample.setWidth 32
  | .btnEdge now => now
  | .tick => 0#32

/-- The operation word the assembler writes for an operation (R78). -/
def encode (i : Instr) : OpWord := Machine.makeWord (opcodeOf i) (operandOf i)

/-- The operation this decoder reads from a word of spec/opcode_table.json, issued by the agent the table names for its opcode.
Bits above `nbits` are 0. A number of more than 36 bits is no operation word (R70); DESIGN CHOICE, log 9. -/
def decodeTableWord (nbits w : Nat) : Option Instr :=
  let v := w % 2 ^ nbits
  if v < 2 ^ 36 then
    let word := BitVec.ofNat 36 v
    match decode (Machine.issuerOfOpcode (Machine.opField word)) word with
    | .ok i => some i
    | .error _ => none
  else none

end Sys2Proof
end

