-- ==== Sys2Proof/Machine/Constants.lean ====
section
/-! DEFINITION. The two constants of R9. The source's literals are unaudited (93_implementation_defined.md section 1), so each
has one definition. -/

namespace Sys2Proof.Machine

/-- `OFF = 255`: fully off, and the fade engine's "off" sentinel (R9, R26). -/
def off : Byte := 255#8

/-- The triple that is fully off on every channel. -/
def allOff : Rgb := ⟨off, off, off⟩

/-- `DEBOUNCE_T = 150`: the minimum interval between accepted button events (R9). -/
def debounceT : Word := 150#32

end Sys2Proof.Machine
end

