-- ==== Sys2Proof/Config.lean ====
section
/-! DEFINITION. What the platform fixes and the spec leaves OPEN: three named parameters that no rule reads
(92_eei_decisions.md D26, D27, D28; 93_implementation_defined.md section 1). They have no value here, and nothing in the
model uses them; they stand so that the spec's parameters have a name. DESIGN CHOICE, safe (log 7): their types. -/

namespace Sys2Proof

/-- TIME_UNIT, the unit of the platform's elapsed-time counter (D26, R112), as a number of some unit of real time. -/
opaque Config.timeUnit : Nat

/-- PLATFORM_CLOCK, how operations are clocked into the block (D27, R5, R203), as a number that names the platform's clocking. -/
opaque Config.platformClock : Nat

/-- TICK_PERIOD, the platform timer's period (D28, R133, R203), as a number of some unit of real time. -/
opaque Config.tickPeriod : Nat

end Sys2Proof
end

