-- ==== Sys2Proof/Machine/State.lean ====
section
/-! DEFINITION. The complete state of the block (R20), the reasons a step may stop (none), and the state after reset (R190). -/

namespace Sys2Proof.Machine

/-- Reasons to stop with a fault: there are none. "No operation raises an exception, records a cause or halts" (R170): the block's
cause-code table is empty, so this type is. -/
inductive Fault where
  deriving DecidableEq, Repr

/-- Reasons to give an operation no meaning. -/
inductive Refusal where
  /-- An operation of the table without a meaning. Raised by no operation: every row has its meaning. Safe: it could only stop a
  run that the block would continue. -/
  | notModelled (mnemonic : String)
  deriving DecidableEq, Repr

/-- The state of the block: the fields of R20 and, last, the model's own input field. -/
structure State where
  /-- s32, the signed rotation count (R21). -/
  rotationCount : Word
  /-- u2, the sample of the last decode (R22). -/
  lastQuadratureSample : Sample
  /-- u16, presses accepted since the last drain (R23). -/
  buttonPressCount : PressCount
  /-- u32, the time of the last accepted press (R24). -/
  lastButtonEventTime : Word
  /-- `actual[c]`, the brightness displayed (R25). -/
  actual : Rgb
  /-- `target[c]`, the brightness faded toward (R25). -/
  target : Rgb
  /-- The press preset (R27). -/
  pressColor : Rgb
  /-- The clockwise preset (R27). -/
  cwColor : Rgb
  /-- The counterclockwise preset (R27). -/
  ccwColor : Rgb
  /-- u8, the fade-rate divisor; 0 disables fading (R28). -/
  fadeDiv : Byte
  /-- u1, the LED output enable (R29). -/
  ledEnabled : Bool
  /-- u32, the elapsed-tick counter (R30). -/
  tickCount : Word
  /-- `ledOut[c]`, the output sink (R31). -/
  ledOut : Rgb
  /-- u32, the host response register (R32). -/
  rsp : Word
  /-- THE MODEL'S OWN FIELD, no register of the block (DESIGN CHOICE, log 1): the operations the four agents have yet to issue, in
  the total order of R57. Any list is allowed, so every interleaving of R58 is. -/
  incoming : List Issue
  deriving DecidableEq, Repr

/-- The block right after reset (R190): every field at the value of R190's table. Nothing has been issued yet (log 3). -/
def State.reset : State where
  rotationCount := 0#32
  lastQuadratureSample := 0b00#2
  buttonPressCount := 0#16
  lastButtonEventTime := 0#32
  actual := ⟨255#8, 255#8, 255#8⟩
  target := ⟨255#8, 255#8, 255#8⟩
  pressColor := ⟨255#8, 255#8, 255#8⟩
  cwColor := ⟨255#8, 255#8, 255#8⟩
  ccwColor := ⟨255#8, 255#8, 255#8⟩
  fadeDiv := 0#8
  ledEnabled := true
  tickCount := 0#32
  ledOut := ⟨255#8, 255#8, 255#8⟩
  rsp := 0#32
  incoming := []

end Sys2Proof.Machine
end

