-- ==== Sys2Proof/Machine/Flags.lean ====
section
/-! DEFINITION. The conditions the rules test. The block has no condition codes (R34); these are the tests of its state that decide
what an operation does, each in one place. -/

namespace Sys2Proof.Machine

/-- Fade enabled: `fadeDiv != 0` (R28). -/
def State.fadeEnabled (s : State) : Bool := s.fadeDiv != 0#8

/-- Gate (1) closes: `actual[c] = 255` and `target[c] = 255` on every channel (R124). -/
def State.allChannelsOff (s : State) : Bool := s.actual == allOff && s.target == allOff

/-- Gate (2) opens: `tickCount mod fadeDiv = 0` (R125). -/
def State.fadeDue (s : State) : Bool := s.tickCount % s.fadeDiv.setWidth 32 == 0#32

/-- `now -_32 lastButtonEventTime`, the modular elapsed time (R111). -/
def State.elapsed (s : State) (now : Word) : Word := now - s.lastButtonEventTime

/-- The event lies inside the debounce window: `elapsed < DEBOUNCE_T` (R112). -/
def State.bouncing (s : State) (now : Word) : Bool := (s.elapsed now).ult debounceT

end Sys2Proof.Machine
end

