-- ==== Sys2Proof/Machine/Ops.lean ====
section
/-! DEFINITION. The shared operations over the state: the primitives of R12, colour selection (R100), taking the next operation from
the input, and what becomes of a word that names no operation. The block takes no exception and returns from none (R175, R176), and
has no memory (R50), so there is no operation for either. -/

namespace Sys2Proof.Machine

/-- The answer of an operation. -/
abbrev Answer := Host.Outcome State Fault Refusal

/-- `Sink(r, g, b)`: write the three output levels in one step (R12, R31). -/
def State.sink (s : State) (c : Rgb) : State := { s with ledOut := c }

/-- `Respond(v)`: write the response register (R12, R32). -/
def State.respond (s : State) (v : Word) : State := { s with rsp := v }

/-- `SelectColor(t)` (R100): nothing while LED output is disabled; otherwise the targets, and with fading disabled also the
actual values and the sink. -/
def State.selectColor (s : State) (t : Rgb) : State :=
  if s.ledEnabled then
    if s.fadeEnabled then { s with target := t }
    else State.sink { s with target := t, actual := t } t
  else s

/-- The state with other operations yet to be issued. -/
def State.withIncoming (s : State) (ops : List Issue) : State := { s with incoming := ops }

/-- The next operation in the total order of R57, and the state with it taken from the input. -/
def State.fetch (s : State) : Option (Issue × State) :=
  match s.incoming with
  | [] => none
  | op :: rest => some (op, s.withIncoming rest)

/-- An agent issues one more operation, after all those already issued (R57, R58). -/
def State.deliver (s : State) (op : Issue) : State := s.withIncoming (s.incoming ++ [op])

/-- Reset asserted on a block in any state: every field of R20 to its value, all at once (R190). Operations not yet issued are
still to come. No agent issues this (R6); log 8. -/
def State.assertReset (s : State) : State := State.reset.withIncoming s.incoming

/-- What a word that names no operation does. A reserved host command only writes `rsp <- 0` (R76). A port's word with a foreign
opcode cannot arise (R74); "ignore what cannot be classified" (R170), log 5. -/
def performRejected (e : DecodeError) (s : State) : Answer :=
  match e with
  | .reservedHostOpcode _ => .next (s.respond 0#32)
  | .foreignPortOpcode _ _ => .next s

/-- The output ports of R7. -/
structure Outputs where
  rspData : Word
  ledR : Byte
  ledG : Byte
  ledB : Byte
  deriving DecidableEq, Repr

/-- What the output ports carry: `rsp` and `ledOut`, and nothing else is visible (R7, R31, R32, R172, R180). -/
def State.outputs (s : State) : Outputs := ⟨s.rsp, s.ledOut.r, s.ledOut.g, s.ledOut.b⟩

end Sys2Proof.Machine
end

