-- ==== Sys2Proof/Machine/Button.lean ====
section
/-! DEFINITION. The button debounce interval filter (41_button.md). -/

namespace Sys2Proof.Machine

/-- BTN_EDGE: an event inside the debounce window changes nothing (R113); any other is counted, its time is recorded and the press
preset is selected (R110). -/
def execBtnEdge (now : Word) (s : State) : Answer :=
  if s.bouncing now then .next s
  else .next (State.selectColor
    { s with buttonPressCount := s.buttonPressCount + 1#16, lastButtonEventTime := now } s.pressColor)

end Sys2Proof.Machine
end

