-- ==== Sys2Proof/Machine/Fade.lean ====
section
/-! DEFINITION. The LED colour fade engine (42_fade.md). -/

namespace Sys2Proof.Machine

/-- One channel's `actual` moved by one unit toward its `target` (R126). -/
def stepToward (actual target : Byte) : Byte :=
  if actual.ult target then actual + 1#8
  else if target.ult actual then actual - 1#8
  else actual

/-- One channel's `target` after its `actual` was stepped: a target that is not the off sentinel and is reached advances by one
(R127), by the same comparison on every channel (R128). -/
def advanceTarget (actual target : Byte) : Byte :=
  if target ≠ off ∧ actual = target then target + 1#8 else target

/-- `FadeChannel(c)` (R120, R126, R127). -/
def fadeChannel (c : Channel) (s : State) : State :=
  let a := stepToward (s.actual.get c) (s.target.get c)
  { s with actual := s.actual.set c a, target := s.target.set c (advanceTarget a (s.target.get c)) }

/-- A fade step: the three channels, then the sink from all three actual values (R126, R129). -/
def fadeStep (s : State) : State :=
  let t := fadeChannel .b (fadeChannel .g (fadeChannel .r s))
  t.sink t.actual

/-- `tickCount <- tickCount +_32 1` (R122). -/
def State.countTick (s : State) : State := { s with tickCount := s.tickCount + 1#32 }

/-- What an enabled tick does after it is counted: nothing while LED output is disabled (R123), when all channels are off (R124) or
when the count is no multiple of the divisor (R125); otherwise a fade step. -/
def State.gatedFade (s : State) : State :=
  if s.ledEnabled && !s.allChannelsOff && s.fadeDue then fadeStep s else s

/-- TICK (R120): nothing while fading is disabled (R121); otherwise the tick is counted and the gates decide. -/
def execTick (s : State) : Answer := if s.fadeEnabled then .next s.countTick.gatedFade else .next s

end Sys2Proof.Machine
end

