-- ==== Sys2Proof/Machine/HostCommands.lean ====
section
/-! DEFINITION. The nine host commands (43_host.md). Each ends by writing the response register (R140) and validates nothing
(R150). -/

namespace Sys2Proof.Machine

/-- RD_ROT: `Respond(rotationCount)` (R141). -/
def execRdRot (s : State) : Answer := .next (s.respond s.rotationCount)

/-- WR_ROT: `rotationCount <- v; Respond(0)` (R142). -/
def execWrRot (v : Word) (s : State) : Answer := .next (State.respond { s with rotationCount := v } 0#32)

/-- RDCLR_PRESS: `Respond(zext_32(buttonPressCount)); buttonPressCount <- 0` in one step (R143, R60). -/
def execRdclrPress (s : State) : Answer :=
  .next { s.respond (s.buttonPressCount.setWidth 32) with buttonPressCount := 0#16 }

/-- LED_OUT: disabling turns the sink off, enabling shows the held actual values (R144). -/
def execLedOut (e : BitVec 1) (s : State) : Answer :=
  if e = 0#1 then .next ((State.sink { s with ledEnabled := false } allOff).respond 0#32)
  else .next ((State.sink { s with ledEnabled := true } s.actual).respond 0#32)

/-- SET_FADE: `fadeDiv <- n; Respond(0)` (R145). -/
def execSetFade (n : Byte) (s : State) : Answer := .next (State.respond { s with fadeDiv := n } 0#32)

/-- SET_COLOR: `SelectColor((r, g, b)); Respond(0)` (R146). -/
def execSetColor (r g b : Byte) (s : State) : Answer := .next ((s.selectColor ⟨r, g, b⟩).respond 0#32)

/-- SET_PRESS_COLOR: `pressColor <- (r, g, b); Respond(0)` (R147). -/
def execSetPressColor (r g b : Byte) (s : State) : Answer :=
  .next (State.respond { s with pressColor := ⟨r, g, b⟩ } 0#32)

/-- SET_CW_COLOR: `cwColor <- (r, g, b); Respond(0)` (R148). -/
def execSetCwColor (r g b : Byte) (s : State) : Answer :=
  .next (State.respond { s with cwColor := ⟨r, g, b⟩ } 0#32)

/-- SET_CCW_COLOR: `ccwColor <- (r, g, b); Respond(0)` (R149). -/
def execSetCcwColor (r g b : Byte) (s : State) : Answer :=
  .next (State.respond { s with ccwColor := ⟨r, g, b⟩ } 0#32)

end Sys2Proof.Machine
end

