-- ==== Sys2Proof/Machine/Quadrature.lean ====
section
/-! DEFINITION. The quadrature decoder (40_quadrature.md). -/

namespace Sys2Proof.Machine

/-- The class of a signature (R102). -/
inductive Turn where
  | cw
  | ccw
  | ignored
  deriving DecidableEq, Repr

/-- `sig <- s : lastQuadratureSample`, the current sample in the upper half (R101; the spec's decision D3). -/
def signature (current previous : Sample) : Signature := current ++ previous

/-- The two signature sets of R101; any other signature is ignored. -/
def classify (sig : Signature) : Turn :=
  if sig ∈ [0b1101#4, 0b0100#4, 0b0010#4, 0b1011#4] then .cw
  else if sig ∈ [0b1110#4, 0b0111#4, 0b0001#4, 0b1000#4] then .ccw
  else .ignored

/-- Count a classified transition and select its preset (R101). -/
def State.countTurn (s : State) : Turn → State
  | .cw => State.selectColor { s with rotationCount := s.rotationCount + 1#32 } s.cwColor
  | .ccw => State.selectColor { s with rotationCount := s.rotationCount - 1#32 } s.ccwColor
  | .ignored => s

/-- QDEC_EDGE: classify against the history, count and select, then always record the sample (R101, R103). -/
def execQdecEdge (sample : Sample) (s : State) : Answer :=
  .next { s.countTurn (classify (signature sample s.lastQuadratureSample)) with lastQuadratureSample := sample }

end Sys2Proof.Machine
end

