-- ==== Sys2Proof/Machine/Dispatch.lean ====
section
/-! DEFINITION. The meaning of every operation, one arm each. -/

namespace Sys2Proof.Machine

def exec (i : Instr) (s : State) : Host.Outcome State Fault Refusal :=
  match i with
  | .rdRot => Sys2Proof.Machine.execRdRot s
  | .wrRot v => Sys2Proof.Machine.execWrRot v s
  | .rdclrPress => Sys2Proof.Machine.execRdclrPress s
  | .ledOut e => Sys2Proof.Machine.execLedOut e s
  | .setFade n => Sys2Proof.Machine.execSetFade n s
  | .setColor r g b => Sys2Proof.Machine.execSetColor r g b s
  | .setPressColor r g b => Sys2Proof.Machine.execSetPressColor r g b s
  | .setCwColor r g b => Sys2Proof.Machine.execSetCwColor r g b s
  | .setCcwColor r g b => Sys2Proof.Machine.execSetCcwColor r g b s
  | .qdecEdge sample => Sys2Proof.Machine.execQdecEdge sample s
  | .btnEdge now => Sys2Proof.Machine.execBtnEdge now s
  | .tick => Sys2Proof.Machine.execTick s

end Sys2Proof.Machine
end

