-- ==== Sys2Proof/Machine/Step.lean ====
section
/-! DEFINITION. One step of the block: the next operation of the total order (R57), decoded and performed as one atomic step (R5). -/

namespace Sys2Proof.Machine

/-- Perform the operation at a port: decode its word as its agent's, then its meaning, or what a word without one does. -/
def perform (op : Issue) (s : State) : Host.Outcome State Fault Refusal :=
  match decode (agentOf op) (wordOf op) with
  | .ok i => exec i s
  | .error e => performRejected e s

/-- One step. While no agent issues an operation the block keeps its state (R181; log 2). -/
def step (s : State) : Host.Outcome State Fault Refusal :=
  match s.fetch with
  | none => .next s
  | some (op, rest) => perform op rest

/-- The state in which a word of the opcode table is the next operation, at the port of the agent that issues it (R74); bits
above `nbits` are 0 and a word has 36 bits (log 3, log 9). -/
def State.withFetchWord (s : State) (nbits w : Nat) : State :=
  s.withIncoming (issueOfWord (BitVec.ofNat 36 (w % 2 ^ nbits)) :: s.incoming)

end Sys2Proof.Machine
end

