-- ==== Sys2Proof/Machine/Assembler.lean ====
section
/-! DEFINITION. The notation of R78 and R79: the lines in which the spec writes operation sequences, the operations they stand for,
and reading a line from its text. Nothing in the block depends on it. What R78 leaves open of the text (spaces, digits,
ranges, operands out of range) is a DESIGN CHOICE, log 14. -/

namespace Sys2Proof

/-- A line of R78 or R79, with its operands as numbers. -/
inductive Line where
  | rdRot
  /-- `wr_rot <v>` with a signed decimal. -/
  | wrRotDec (v : Int)
  /-- `wr_rot <v>` with a hexadecimal 32-bit value. -/
  | wrRotHex (v : Nat)
  | rdclrPress
  | ledOut (e : Nat)
  | setFade (n : Nat)
  | setColor (r g b : Nat)
  | setPressColor (r g b : Nat)
  | setCwColor (r g b : Nat)
  | setCcwColor (r g b : Nat)
  /-- `edge <s>`: the two binary digits, line 1 then line 2. -/
  | edge (line1 line2 : Nat)
  | press (now : Nat)
  | tick
  | ledOn
  | ledOff
  | fadeOff
  | rotClear
  | cwCycle
  | ccwCycle
  | ticks (k : Nat)
  deriving DecidableEq, Repr

namespace Machine

/-- A brightness or a divisor: 0 to 255. -/
def isByte (n : Nat) : Bool := n < 256

/-- The operand ranges of R78; where it gives none, the widths of R73 (log 14). -/
def lineInRange : Line → Bool
  | .rdRot => true
  | .wrRotDec v => -2147483648 ≤ v && v ≤ 2147483647
  | .wrRotHex v => v < 4294967296
  | .rdclrPress => true
  | .ledOut e => e < 2
  | .setFade n => isByte n
  | .setColor r g b => isByte r && isByte g && isByte b
  | .setPressColor r g b => isByte r && isByte g && isByte b
  | .setCwColor r g b => isByte r && isByte g && isByte b
  | .setCcwColor r g b => isByte r && isByte g && isByte b
  | .edge line1 line2 => line1 < 2 && line2 < 2
  | .press now => now < 4294967296
  | .tick => true
  | .ledOn => true
  | .ledOff => true
  | .fadeOff => true
  | .rotClear => true
  | .cwCycle => true
  | .ccwCycle => true
  | .ticks _ => true

/-- A sample written line 1 then line 2 (R78): line 1 is bit 1 (R101; the spec's decision D4). -/
def sampleOfLines (line1 line2 : Nat) : Sample := BitVec.ofNat 2 (2 * line1 + line2)

/-- The operations a line stands for (R78), a pseudo-operation by its expansion (R79). -/
def lineInstrs : Line → List Instr
  | .rdRot => [.rdRot]
  | .wrRotDec v => [.wrRot (BitVec.ofInt 32 v)]
  | .wrRotHex v => [.wrRot (BitVec.ofNat 32 v)]
  | .rdclrPress => [.rdclrPress]
  | .ledOut e => [.ledOut (BitVec.ofNat 1 e)]
  | .setFade n => [.setFade (BitVec.ofNat 8 n)]
  | .setColor r g b => [.setColor (BitVec.ofNat 8 r) (BitVec.ofNat 8 g) (BitVec.ofNat 8 b)]
  | .setPressColor r g b => [.setPressColor (BitVec.ofNat 8 r) (BitVec.ofNat 8 g) (BitVec.ofNat 8 b)]
  | .setCwColor r g b => [.setCwColor (BitVec.ofNat 8 r) (BitVec.ofNat 8 g) (BitVec.ofNat 8 b)]
  | .setCcwColor r g b => [.setCcwColor (BitVec.ofNat 8 r) (BitVec.ofNat 8 g) (BitVec.ofNat 8 b)]
  | .edge line1 line2 => [.qdecEdge (sampleOfLines line1 line2)]
  | .press now => [.btnEdge (BitVec.ofNat 32 now)]
  | .tick => [.tick]
  | .ledOn => [.ledOut 1#1]
  | .ledOff => [.ledOut 0#1]
  | .fadeOff => [.setFade 0#8]
  | .rotClear => [.wrRot 0#32]
  | .cwCycle => [.qdecEdge 0b01#2, .qdecEdge 0b11#2, .qdecEdge 0b10#2, .qdecEdge 0b00#2]
  | .ccwCycle => [.qdecEdge 0b10#2, .qdecEdge 0b11#2, .qdecEdge 0b01#2, .qdecEdge 0b00#2]
  | .ticks k => List.replicate k .tick

/-- The words of a line; a line with an operand out of range has none. -/
def assemble (l : Line) : Option (List OpWord) :=
  if lineInRange l then some ((lineInstrs l).map encode) else none

/-- The port inputs that carry a line's operations, each at the port of its issuer (R74). -/
def lineIssues (l : Line) : List Issue := (lineInstrs l).map (fun i => issueOfWord (encode i))

/-! Reading a line from its text. -/

/-- A space or a tab. -/
def isBlank (c : Char) : Bool := c == ' ' || c == '\t'

/-- The text without blanks at either end. -/
def trimText (t : List Char) : List Char := ((t.dropWhile isBlank).reverse.dropWhile isBlank).reverse

/-- The parts of a text between commas. -/
def splitAtCommas : List Char → List (List Char)
  | [] => [[]]
  | c :: rest =>
    if c == ',' then [] :: splitAtCommas rest
    else
      match splitAtCommas rest with
      | [] => [[c]]
      | first :: others => (c :: first) :: others

/-- The operands of a line: none for an empty text, else the parts between commas. -/
def operandTexts (t : List Char) : List (List Char) :=
  if trimText t = [] then [] else (splitAtCommas t).map trimText

/-- A digit's value in a base up to 16. -/
def digitValue (base : Nat) (c : Char) : Option Nat :=
  let n := c.toNat
  let v := if 48 ≤ n && n ≤ 57 then n - 48
    else if 97 ≤ n && n ≤ 102 then n - 87
    else if 65 ≤ n && n ≤ 70 then n - 55
    else 16
  if v < base then some v else none

/-- The digits of a number, read on from the value of those before them. -/
def readDigits (base : Nat) : Nat → List Char → Option Nat
  | acc, [] => some acc
  | acc, c :: rest =>
    match digitValue base c with
    | some v => readDigits base (acc * base + v) rest
    | none => none

/-- An unsigned number of at least one digit. -/
def readNat (base : Nat) (t : List Char) : Option Nat :=
  if t = [] then none else readDigits base 0 t

/-- A line with one unsigned decimal operand. -/
def readOne (f : Nat → Line) (t : List Char) : Option Line := (readNat 10 t).map f

/-- A line with a colour triple. -/
def readTriple (f : Nat → Nat → Nat → Line) (r g b : List Char) : Option Line :=
  match readNat 10 r, readNat 10 g, readNat 10 b with
  | some r, some g, some b => some (f r g b)
  | _, _, _ => none

/-- The operand of `wr_rot`: `0x` and hexadecimal digits, or a signed decimal. -/
def readRotation : List Char → Option Line
  | '0' :: 'x' :: rest => (readNat 16 rest).map .wrRotHex
  | '-' :: rest => (readNat 10 rest).map (fun n => .wrRotDec (-(n : Int)))
  | t => (readNat 10 t).map (fun n => .wrRotDec n)

/-- The operand of `edge`: exactly two binary digits. -/
def readSample : List Char → Option Line
  | [a, b] =>
    match digitValue 2 a, digitValue 2 b with
    | some a, some b => some (.edge a b)
    | _, _ => none
  | _ => none

/-- The operand of `press`: `@` and an unsigned decimal. -/
def readPress : List Char → Option Line
  | '@' :: rest => readOne .press rest
  | _ => none

/-- A mnemonic with its operands. -/
def readOperation (mnemonic : String) (args : List (List Char)) : Option Line :=
  match mnemonic, args with
  | "rd_rot", [] => some .rdRot
  | "wr_rot", [v] => readRotation v
  | "rdclr_press", [] => some .rdclrPress
  | "led_out", [e] => readOne .ledOut e
  | "set_fade", [n] => readOne .setFade n
  | "set_color", [r, g, b] => readTriple .setColor r g b
  | "set_press_color", [r, g, b] => readTriple .setPressColor r g b
  | "set_cw_color", [r, g, b] => readTriple .setCwColor r g b
  | "set_ccw_color", [r, g, b] => readTriple .setCcwColor r g b
  | "edge", [s] => readSample s
  | "press", [now] => readPress now
  | "tick", [] => some .tick
  | "led_on", [] => some .ledOn
  | "led_off", [] => some .ledOff
  | "fade_off", [] => some .fadeOff
  | "rot_clear", [] => some .rotClear
  | "cw_cycle", [] => some .cwCycle
  | "ccw_cycle", [] => some .ccwCycle
  | "ticks", [k] => readOne .ticks k
  | _, _ => none

/-- The words of one line of text: none for a text that is no line; no words for an empty line or a comment. One operation a
line, `;` starts a comment (R78). -/
def assembleText (text : String) : Option (List OpWord) :=
  let t := trimText (text.toList.takeWhile (· != ';'))
  let name := t.takeWhile (fun c => !isBlank c)
  if t = [] then some []
  else
    match readOperation (String.ofList name) (operandTexts (t.drop name.length)) with
    | some l => assemble l
    | none => none

end Machine
end Sys2Proof
end

