-- ==== Sys2Proof/Machine/Instances.lean ====
section
/-! DEFINITION. Several instances of the block (R179): each has its own complete state and ports, and no instance reads or writes
another's. There are no instance identifiers; the position in the list is the reader's (DESIGN CHOICE, log 15). -/

namespace Sys2Proof.Machine

/-- One step of the instance at position `k`. Where there is none, nothing happens. -/
def stepInstanceAt (k : Nat) (blocks : List State) : Host.Outcome (List State) Fault Refusal :=
  match blocks[k]? with
  | none => .next blocks
  | some s =>
    match step s with
    | .next t => .next (blocks.set k t)
    | .fault f => .fault f
    | .refused r => .refused r

end Sys2Proof.Machine
end

