-- ==== Sys2Proof/Machine/Order.lean ====
section
/-! DEFINITION. The order of operations of several agents (R57, R58, R174): which total orders the block may perform when each agent
has issued a sequence of operations. The state's `incoming` holds one such order; claims about every state hold for all of them. -/

namespace Sys2Proof

/-- What each agent has issued, in its own issue order. A tick carries nothing, so the tick source's sequence is a number. An edge's
sample and a press's time stand fixed here, before the order is chosen (log 17). -/
structure Pending where
  host : List (Opcode × Word)
  encoder : List Sample
  button : List Word
  ticks : Nat
  deriving DecidableEq, Repr

namespace Machine

/-- The host's words in an order, in sequence. -/
def hostPart : List Issue → List (Opcode × Word)
  | [] => []
  | .host op data :: rest => (op, data) :: hostPart rest
  | _ :: rest => hostPart rest

/-- The encoder port's samples in an order, in sequence. -/
def encoderPart : List Issue → List Sample
  | [] => []
  | .encoder sample :: rest => sample :: encoderPart rest
  | _ :: rest => encoderPart rest

/-- The button port's times in an order, in sequence. -/
def buttonPart : List Issue → List Word
  | [] => []
  | .button now :: rest => now :: buttonPart rest
  | _ :: rest => buttonPart rest

/-- The number of ticks in an order. -/
def tickPart : List Issue → Nat
  | [] => 0
  | .tick :: rest => tickPart rest + 1
  | _ :: rest => tickPart rest

/-- `order` performs exactly what the agents have issued and keeps each agent's own issue order; between agents anything goes
(R58, R174; the spec's D18). -/
abbrev IsOrderOf (p : Pending) (order : List Issue) : Prop :=
  hostPart order = p.host ∧ encoderPart order = p.encoder ∧ buttonPart order = p.button ∧ tickPart order = p.ticks

/-- One order among the possible ones: agent after agent. -/
def agentByAgent (p : Pending) : List Issue :=
  p.host.map (fun w => Issue.host w.1 w.2) ++ p.encoder.map Issue.encoder ++ p.button.map Issue.button
    ++ List.replicate p.ticks Issue.tick

end Machine
end Sys2Proof
end

