-- ==== Sys2Proof/Safety.lean ====
section
/-! DEFINITION. The terms in which claims about the block are stated: runs and what they let an observer see (R204), the invariant of
the LED outputs (R131), and how long a channel takes to settle (R132). -/

namespace Sys2Proof.Machine

/-- `k` steps of the machine (a run, R204), in the model's own types. -/
def runFor (k : Nat) (s : State) : Host.Outcome State Fault Refusal := Host.Core.run Sys2Proof.core k s

/-- The invariant of R131: with LED output enabled the sink shows the actual values, with it disabled the sink is all-off. -/
abbrev LedOutFollowsActual (s : State) : Prop :=
  (s.ledEnabled = true → s.ledOut = s.actual) ∧ (s.ledEnabled = false → s.ledOut = allOff)

/-- The `rsp` values returned along `k` steps (R204): one for each host command performed. -/
def responses : Nat → State → List Word
  | 0, _ => []
  | k + 1, s =>
    match s.incoming, step s with
    | .host _ _ :: _, .next t => t.rsp :: responses k t
    | _, .next t => responses k t
    | _, _ => []

/-- The press counts handed out along `k` steps: the sum of the responses to RDCLR_PRESS (R60, R196). -/
def drained : Nat → State → Nat
  | 0, _ => 0
  | k + 1, s =>
    match s.incoming, step s with
    | .host op _ :: _, .next t => (if op = 0x3#4 then t.rsp.toNat else 0) + drained k t
    | _, .next t => drained k t
    | _, _ => 0

/-- The times of the button events accepted along `k` steps, oldest first: those whose step changed the press count. -/
def acceptedPresses : Nat → State → List Word
  | 0, _ => []
  | k + 1, s =>
    match s.incoming, step s with
    | .button now :: _, .next t =>
      if t.buttonPressCount ≠ s.buttonPressCount then now :: acceptedPresses k t else acceptedPresses k t
    | _, .next t => acceptedPresses k t
    | _, _ => []

/-- `k` fade steps (R126 to R129) with nothing between them. -/
def fadeSteps : Nat → State → State
  | 0, s => s
  | k + 1, s => fadeSteps k (fadeStep s)

/-- The number of fade steps a channel takes from `actual = a`, `target = t` to settle at 255, by the four cases of R132. -/
def settlingSteps (a t : Nat) : Nat :=
  if t < a then (a - t) + (255 - t)
  else if a < t then 255 - a
  else if t ≠ 255 then 256 - t
  else 0

/-- The channel has settled: `actual = target = 255` (R132). -/
abbrev Settled (c : Channel) (s : State) : Prop := s.actual.get c = 255#8 ∧ s.target.get c = 255#8

/-- The operation is a LED_OUT that enables (R144). -/
def enablesLeds : Issue → Bool
  | .host op data => op == 0x4#4 && enableField data == 1#1
  | _ => false

/-- A list of times in which each is at least 150 units after the one before it, modulo 2^32 (R111, R112). -/
def debounced : Word → List Word → Bool
  | _, [] => true
  | last, now :: rest => decide (150 ≤ (now - last).toNat) && debounced now rest

end Sys2Proof.Machine
end

