-- ==== Sys2Proof/Certificates/Slice0/Obligations.lean ====
section
/-! DEFINITION. The statements for the provers. Each docstring names the rule or the part of spec/ it formalises, and, where it rests on
a decision the spec marks as its own (D<n> of 92_eei_decisions.md) or on a choice of the model (log <n>), says so. -/

open Sys2Proof Sys2Proof.Machine

/-! ## Reset -/

/-- 70_reset_and_hazards.md section 1: reset leaves every field of the block at the value of the reset table, whether it is the state
after reset or reset asserted on any state. The counters and the channels are the source's values; the other rows are the spec's own
decision D9 (log 6). That a reset may also be asserted on a running block is log 8. -/
def Obligations.ResetLeavesTheTabledValues : Prop :=
  ∀ t : State, (t = State.reset ∨ ∃ s : State, t = s.assertReset) →
    t.rotationCount.toInt = 0 ∧ t.lastQuadratureSample = 0b00#2 ∧ t.buttonPressCount.toNat = 0 ∧
    t.lastButtonEventTime.toNat = 0 ∧ (∀ c, t.actual.get c = 255#8) ∧ (∀ c, t.target.get c = 255#8) ∧
    t.pressColor = ⟨255#8, 255#8, 255#8⟩ ∧ t.cwColor = ⟨255#8, 255#8, 255#8⟩ ∧ t.ccwColor = ⟨255#8, 255#8, 255#8⟩ ∧
    t.fadeDiv.toNat = 0 ∧ t.ledEnabled = true ∧ t.tickCount.toNat = 0 ∧ (∀ c, t.ledOut.get c = 255#8) ∧ t.rsp.toNat = 0

/-! ## Encoding -/

/-- 30_encoding.md sections 1 to 4 (the encoding is the spec's decision D2): the word of every operation, issued by the agent that may
issue it, decodes to that operation with every operand at every value; issued by any other agent it names no operation. -/
def Obligations.DecodeInvertsEncode : Prop :=
  ∀ (a : Agent) (i : Instr),
    (WellFormed a i = true → decode a (encode i) = .ok i) ∧
    (WellFormed a i = false → ∃ e, decode a (encode i) = .error e)

/-- 30_encoding.md sections 2 to 4 (D2, D20): a word that decodes is, but for its ignored bits, the word of the operation it decodes to,
and words that differ only in ignored bits decode alike. -/
def Obligations.DecodeReadsExactlyTheListedBits : Prop :=
  (∀ (a : Agent) (w : OpWord) (i : Instr), decode a w = .ok i →
    WellFormed a i = true ∧ encode i = makeWord (opField w) (dataField w &&& operandMask (opField w))) ∧
  (∀ (a : Agent) (v w : OpWord), opField v = opField w →
    dataField v &&& operandMask (opField v) = dataField w &&& operandMask (opField w) → decode a v = decode a w)

/-- 30_encoding.md section 4 (D20): a host word with opcode 0x0, 0xA, 0xB, 0xC, 0xD, 0xE or 0xF changes nothing but `rsp`, which becomes
0, so the host cannot inject an event; every other host word names a host command. -/
def Obligations.HostWordsAreCommandsOrReserved : Prop :=
  ∀ (op : Opcode) (d : Word),
    (op ∈ [0x0#4, 0xA#4, 0xB#4, 0xC#4, 0xD#4, 0xE#4, 0xF#4] → ∀ (s : State) (rest : List Issue),
      s.incoming = .host op d :: rest → step s = .next { s with incoming := rest, rsp := 0#32 }) ∧
    (op ∉ [0x0#4, 0xA#4, 0xB#4, 0xC#4, 0xD#4, 0xE#4, 0xF#4] →
      ∃ i, decode .host (makeWord op d) = .ok i ∧ WellFormed .host i = true)

/-- 30_encoding.md sections 1 and 3 (D2): the word each port forms decodes to that port's operation with the operand the port carries. -/
def Obligations.PortEventsDecodeToTheirOperations : Prop :=
  (∀ x : Sample, decode (agentOf (.encoder x)) (wordOf (.encoder x)) = .ok (.qdecEdge x)) ∧
  (∀ now : Word, decode (agentOf (.button now)) (wordOf (.button now)) = .ok (.btnEdge now)) ∧
  decode (agentOf .tick) (wordOf .tick) = .ok .tick

/-- 30_encoding.md (the encoding is the spec's decision D2) and 95_test_vectors.md: words written out from the encoding decode to the
operations they stand for (H5, H7, H12, P5 among them), and a reserved word to none. -/
def Obligations.WrittenOutWordsDecode : Prop :=
  decodeTableWord 40 0x100000000 = some .rdRot ∧
  decodeTableWord 40 0x2FFFFFFFF = some (.wrRot (BitVec.ofInt 32 (-1))) ∧
  decodeTableWord 40 0x300000000 = some .rdclrPress ∧
  decodeTableWord 40 0x4FFFFFFFE = some (.ledOut 0#1) ∧
  decodeTableWord 40 0x500000100 = some (.setFade 0#8) ∧
  decodeTableWord 40 0x6FF010203 = some (.setColor 1#8 2#8 3#8) ∧
  decodeTableWord 40 0x700FF00FF = some (.setPressColor 255#8 0#8 255#8) ∧
  decodeTableWord 40 0x80000FFFF = some (.setCwColor 0#8 255#8 255#8) ∧
  decodeTableWord 40 0x900FFFF00 = some (.setCcwColor 255#8 255#8 0#8) ∧
  decodeTableWord 40 0xC00000002 = some (.qdecEdge 0b10#2) ∧
  decodeTableWord 40 0xD0000047E = some (.btnEdge 1150#32) ∧
  decodeTableWord 40 0xE00000000 = some .tick ∧
  decodeTableWord 40 0xA12345678 = none

/-- 30_encoding.md section 5 (the notation is the spec's decision D25, the encoding its D2): the words of every line of the syntax table
and of every pseudo-operation, as numbers computed from the operands as written. That a line with an operand out of range has no word, and
the ranges the table does not give (the signed 32-bit range of a decimal `wr_rot`, 32 bits for a hexadecimal one and for a press time, 0 to
255 for a brightness), are the model's choice, log 14 (DESIGN CHOICE). -/
def Obligations.AssemblerWritesTheSyntaxTablesWords : Prop :=
  assemble .rdRot = some [0x100000000#36] ∧
  (∀ v : Int, assemble (.wrRotDec v) = if -2147483648 ≤ v ∧ v ≤ 2147483647
    then some [BitVec.ofNat 36 (2 * 2 ^ 32 + (v % 2 ^ 32).toNat)] else none) ∧
  (∀ v : Nat, assemble (.wrRotHex v) = if v < 2 ^ 32 then some [BitVec.ofNat 36 (2 * 2 ^ 32 + v)] else none) ∧
  assemble .rdclrPress = some [0x300000000#36] ∧
  (∀ e : Nat, assemble (.ledOut e) = if e < 2 then some [BitVec.ofNat 36 (4 * 2 ^ 32 + e)] else none) ∧
  (∀ n : Nat, assemble (.setFade n) = if n < 256 then some [BitVec.ofNat 36 (5 * 2 ^ 32 + n)] else none) ∧
  (∀ r g b : Nat, assemble (.setColor r g b) = if r < 256 ∧ g < 256 ∧ b < 256
    then some [BitVec.ofNat 36 (6 * 2 ^ 32 + r * 65536 + g * 256 + b)] else none) ∧
  (∀ r g b : Nat, assemble (.setPressColor r g b) = if r < 256 ∧ g < 256 ∧ b < 256
    then some [BitVec.ofNat 36 (7 * 2 ^ 32 + r * 65536 + g * 256 + b)] else none) ∧
  (∀ r g b : Nat, assemble (.setCwColor r g b) = if r < 256 ∧ g < 256 ∧ b < 256
    then some [BitVec.ofNat 36 (8 * 2 ^ 32 + r * 65536 + g * 256 + b)] else none) ∧
  (∀ r g b : Nat, assemble (.setCcwColor r g b) = if r < 256 ∧ g < 256 ∧ b < 256
    then some [BitVec.ofNat 36 (9 * 2 ^ 32 + r * 65536 + g * 256 + b)] else none) ∧
  (∀ x y : Nat, assemble (.edge x y) = if x < 2 ∧ y < 2 then some [BitVec.ofNat 36 (12 * 2 ^ 32 + 2 * x + y)] else none) ∧
  (∀ now : Nat, assemble (.press now) = if now < 2 ^ 32 then some [BitVec.ofNat 36 (13 * 2 ^ 32 + now)] else none) ∧
  assemble .tick = some [0xE00000000#36] ∧
  assemble .ledOn = some [0x400000001#36] ∧ assemble .ledOff = some [0x400000000#36] ∧
  assemble .fadeOff = some [0x500000000#36] ∧ assemble .rotClear = some [0x200000000#36] ∧
  assemble .cwCycle = some [0xC00000001#36, 0xC00000003#36, 0xC00000002#36, 0xC00000000#36] ∧
  assemble .ccwCycle = some [0xC00000002#36, 0xC00000003#36, 0xC00000001#36, 0xC00000000#36] ∧
  (∀ k : Nat, assemble (.ticks k) = some (List.replicate k 0xE00000000#36))

/-! ## The step -/

/-- 20_memory.md section 2, 30_encoding.md section 3: when the next operation's word decodes to an operation, the step is that operation's
meaning on the state with it taken from the input. The input list is the model's own field (log 1). -/
def Obligations.StepPerformsTheDecodedOperation : Prop :=
  ∀ (s : State) (op : Issue) (rest : List Issue) (i : Instr),
    s.incoming = op :: rest → decode (agentOf op) (wordOf op) = .ok i → step s = exec i (s.withIncoming rest)

/-- 60_exceptions.md section 7: while nothing is issued the block keeps its state. That this is a step of the model is its choice (log 2). -/
def Obligations.IdleStepKeepsTheState : Prop :=
  ∀ s : State, s.incoming = [] → step s = .next s

/-- The model's placing of a word (log 3): a word of the opcode table placed as the next operation is run by the next step, whatever else
waits, as exactly the operation it decodes to. -/
def Obligations.PlacedWordRunsNext : Prop :=
  ∀ (s : State) (nbits w : Nat) (i : Instr), decodeTableWord nbits w = some i → step (s.withFetchWord nbits w) = exec i s

/-- 20_memory.md section 2, 70_reset_and_hazards.md section 3 (D1): operations are performed in their total order, each on the state the ones
before it left; what is still to come has no effect on them. -/
def Obligations.EarlierOperationsNeverSeeLaterOnes : Prop :=
  ∀ (s : State) (earlier later : List Issue), ∃ t : State,
    runFor earlier.length (s.withIncoming earlier) = .next (t.withIncoming []) ∧
    (∀ k, runFor (earlier.length + k) (s.withIncoming (earlier ++ later)) = runFor k (t.withIncoming later))

/-- 20_memory.md section 2 (D1, D18): a run takes the operations in the order of the input and keeps every agent's own issue order. -/
def Obligations.EachAgentsIssueOrderIsKept : Prop :=
  ∀ (k : Nat) (s t : State), runFor k s = .next t →
    t.incoming = s.incoming.drop k ∧
    hostPart (s.incoming.take k) ++ hostPart t.incoming = hostPart s.incoming ∧
    encoderPart (s.incoming.take k) ++ encoderPart t.incoming = encoderPart s.incoming ∧
    buttonPart (s.incoming.take k) ++ buttonPart t.incoming = buttonPart s.incoming ∧
    tickPart (s.incoming.take k) + tickPart t.incoming = tickPart s.incoming

/-- R170 (60_exceptions.md): no operation and no run ever stops, and each condition of the rule's table is handled as the table says:
an unclassified signature is ignored, a press inside the window is discarded, a tick at divisor zero does nothing, the counters wrap and a
reserved host opcode only writes `rsp`. What the clauses say beyond these words rests on decisions the spec marks as its own (log 6): which
edges count up or down (D3, D4), wrapping and not saturating (D6, D7), the elapsed time modulo 2^32 (D8), the tick count held at divisor zero
(D14), `rsp` 0 for the reserved opcodes (D20). -/
def Obligations.NothingRaisesAnExceptionOrHalts : Prop :=
  (∀ (i : Instr) (s : State), ∃ t, exec i s = .next t) ∧
  (∀ (k : Nat) (s : State), ∃ t, runFor k s = .next t) ∧
  (∀ (x : Sample) (s : State), x = s.lastQuadratureSample ∨ x = ~~~s.lastQuadratureSample →
    exec (.qdecEdge x) s = .next { s with lastQuadratureSample := x }) ∧
  (∀ (now : Word) (s : State), (now - s.lastButtonEventTime).toNat < 150 → exec (.btnEdge now) s = .next s) ∧
  (∀ s : State, s.fadeDiv.toNat = 0 → exec .tick s = .next s) ∧
  (∀ s : State, s.rotationCount.toInt = 2147483647 → s.lastQuadratureSample = 0b00#2 →
    ∃ t, exec (.qdecEdge 0b01#2) s = .next t ∧ t.rotationCount.toInt = -2147483648) ∧
  (∀ s : State, s.rotationCount.toInt = -2147483648 → s.lastQuadratureSample = 0b01#2 →
    ∃ t, exec (.qdecEdge 0b00#2) s = .next t ∧ t.rotationCount.toInt = 2147483647) ∧
  (∀ (now : Word) (s : State), s.buttonPressCount.toNat = 65535 → 150 ≤ (now - s.lastButtonEventTime).toNat →
    ∃ t, exec (.btnEdge now) s = .next t ∧ t.buttonPressCount.toNat = 0) ∧
  (∀ (op : Opcode) (d : Word) (s : State) (rest : List Issue), op = 0x0#4 ∨ 0xA#4 ≤ op → s.incoming = .host op d :: rest →
    step s = .next { s with incoming := rest, rsp := 0#32 })

/-! ## Host commands -/

/-- R141 (43_host.md): opcode 0x1 with any data is RD_ROT; it returns the two's-complement pattern of the count and changes nothing else. -/
def Obligations.RdRotReturnsTheCount : Prop :=
  (∀ d : Word, decode .host (makeWord 0x1#4 d) = .ok .rdRot) ∧
  (∀ s : State, exec .rdRot s = .next { s with rsp := s.rotationCount }) ∧
  (∀ s : State, s.rotationCount.toInt = -1 → exec .rdRot s = .next { s with rsp := 0xFFFFFFFF#32 }) ∧
  (∀ s : State, s.rotationCount.toInt = -3 → exec .rdRot s = .next { s with rsp := 0xFFFFFFFD#32 })

/-- R142 (43_host.md): opcode 0x2 is WR_ROT of `data[31:0]`; every 32-bit value is stored, `rsp` becomes 0, and nothing else changes: no
colour is selected and the history stays, so the next edge classifies against it. -/
def Obligations.WrRotStoresAnyCount : Prop :=
  (∀ v : Word, decode .host (makeWord 0x2#4 v) = .ok (.wrRot v)) ∧
  (∀ (v : Word) (s : State), exec (.wrRot v) s = .next { s with rotationCount := v, rsp := 0#32 }) ∧
  decode .host 0x2FFFFFFFF#36 = .ok (.wrRot 0xFFFFFFFF#32) ∧
  (∀ s : State, ∃ t, exec (.wrRot 0xFFFFFFFF#32) s = .next t ∧ t.rotationCount.toInt = -1 ∧ t.rsp = 0#32)

/-- R143 (43_host.md): opcode 0x3 with any data is RDCLR_PRESS; in one step it returns the count zero-extended and clears it, and changes
nothing else; a second one, after any operations that accept no press, returns 0. -/
def Obligations.RdclrPressReadsAndClears : Prop :=
  (∀ d : Word, decode .host (makeWord 0x3#4 d) = .ok .rdclrPress) ∧
  (∀ s : State, ∃ r : Word, r.toNat = s.buttonPressCount.toNat ∧
    exec .rdclrPress s = .next { s with rsp := r, buttonPressCount := 0#16 }) ∧
  (∀ (k : Nat) (s t u : State), exec .rdclrPress s = .next t → runFor k t = .next u → acceptedPresses k t = [] →
    exec .rdclrPress u = .next { u with rsp := 0#32, buttonPressCount := 0#16 })

/-- 20_memory.md section 1: repeating RD_ROT returns the same value when no operation between the two can write the count: no encoder
event and no WR_ROT. -/
def Obligations.RdRotRepeatsUntilTheCountMayBeWritten : Prop :=
  ∀ (k : Nat) (s t u : State), exec .rdRot s = .next t →
    (∀ op ∈ t.incoming.take k, (∀ x, op ≠ .encoder x) ∧ ∀ d, op ≠ .host 0x2#4 d) →
    runFor k t = .next u → exec .rdRot u = .next { u with rsp := t.rsp }

/-- 43_host.md on LED_OUT (the spec's decisions D11, D12): `data[0]` is the operand; disabling turns the sink off, enabling shows the held
actual values; `rsp` becomes 0 and nothing else changes. -/
def Obligations.LedOutSwitchesTheSink : Prop :=
  (∀ d : Word, decode .host (makeWord 0x4#4 d) = .ok (.ledOut (BitVec.ofNat 1 d.toNat))) ∧
  (∀ s : State, exec (.ledOut 0#1) s =
    .next { s with ledEnabled := false, ledOut := ⟨255#8, 255#8, 255#8⟩, rsp := 0#32 }) ∧
  (∀ s : State, exec (.ledOut 1#1) s = .next { s with ledEnabled := true, ledOut := s.actual, rsp := 0#32 })

/-- 43_host.md on SET_FADE (D14, D29): `data[7:0]` is the divisor; it is stored, `rsp` becomes 0, and nothing else changes: `actual` is not
snapped, the sink is not rewritten and the tick count is not reset. -/
def Obligations.SetFadeStoresTheDivisorOnly : Prop :=
  (∀ d : Word, decode .host (makeWord 0x5#4 d) = .ok (.setFade (BitVec.ofNat 8 (d.toNat % 256)))) ∧
  (∀ (n : Byte) (s : State), exec (.setFade n) s = .next { s with fadeDiv := n, rsp := 0#32 })

/-- 43_host.md on SET_COLOR (D13, with D10 and D11 of SelectColor): at once on target, actual and sink with fading disabled, on target
only with fading enabled, and nothing but `rsp` with LED output disabled. -/
def Obligations.SetColorSelectsTheTriple : Prop :=
  (∀ d : Word, decode .host (makeWord 0x6#4 d) =
    .ok (.setColor (BitVec.ofNat 8 (d.toNat / 65536)) (BitVec.ofNat 8 (d.toNat / 256)) (BitVec.ofNat 8 d.toNat))) ∧
  (∀ (r g b : Byte) (s : State),
    (s.ledEnabled = true → s.fadeDiv = 0#8 → exec (.setColor r g b) s =
      .next { s with target := ⟨r, g, b⟩, actual := ⟨r, g, b⟩, ledOut := ⟨r, g, b⟩, rsp := 0#32 }) ∧
    (s.ledEnabled = true → s.fadeDiv ≠ 0#8 → exec (.setColor r g b) s = .next { s with target := ⟨r, g, b⟩, rsp := 0#32 }) ∧
    (s.ledEnabled = false → exec (.setColor r g b) s = .next { s with rsp := 0#32 }))

/-- R147, R148, R149 (43_host.md): opcodes 0x7, 0x8, 0x9 carry a triple in `data[23:0]`; each stores it in its preset only, also while LED
output is disabled, and writes 0 to `rsp`; the preset is what the next accepted press, clockwise or counterclockwise edge selects.
Decisions the spec marks as its own (log 6): the field positions (D2), the lists of clockwise and counterclockwise pairs (D3, D4), the
elapsed time modulo 2^32 by which a press is accepted (D8), and that selection writes the targets only while LED output is enabled (D11). -/
def Obligations.PresetCommandsStoreTheirTripleOnly : Prop :=
  (∀ (d : Word) (r g b : Byte), r = BitVec.ofNat 8 (d.toNat / 65536) → g = BitVec.ofNat 8 (d.toNat / 256) →
    b = BitVec.ofNat 8 d.toNat →
    decode .host (makeWord 0x7#4 d) = .ok (.setPressColor r g b) ∧ decode .host (makeWord 0x8#4 d) = .ok (.setCwColor r g b) ∧
    decode .host (makeWord 0x9#4 d) = .ok (.setCcwColor r g b)) ∧
  (∀ (r g b : Byte) (s : State),
    exec (.setPressColor r g b) s = .next { s with pressColor := ⟨r, g, b⟩, rsp := 0#32 } ∧
    exec (.setCwColor r g b) s = .next { s with cwColor := ⟨r, g, b⟩, rsp := 0#32 } ∧
    exec (.setCcwColor r g b) s = .next { s with ccwColor := ⟨r, g, b⟩, rsp := 0#32 }) ∧
  (∀ (now : Word) (s : State), s.ledEnabled = true → 150 ≤ (now - s.lastButtonEventTime).toNat →
    ∃ t, exec (.btnEdge now) s = .next t ∧ t.target = s.pressColor) ∧
  (∀ (x : Sample) (s : State), s.ledEnabled = true →
    ((s.lastQuadratureSample, x) ∈ [(0b00#2, 0b01#2), (0b01#2, 0b11#2), (0b11#2, 0b10#2), (0b10#2, 0b00#2)] →
      ∃ t, exec (.qdecEdge x) s = .next t ∧ t.target = s.cwColor) ∧
    ((x, s.lastQuadratureSample) ∈ [(0b00#2, 0b01#2), (0b01#2, 0b11#2), (0b11#2, 0b10#2), (0b10#2, 0b00#2)] →
      ∃ t, exec (.qdecEdge x) s = .next t ∧ t.target = s.ccwColor))

/-- R150 (43_host.md): a host word with any data at all is accepted, and the brightness, divisor or rotation value in it is stored as
given. Decisions the spec marks as its own (log 6): the field positions, R72's (D2); that SET_COLOR stores its brightness as the target, as an
event's colour selection does (R146, R100; D13), and only while LED output is enabled (D11). -/
def Obligations.HostValuesAreStoredAsGiven : Prop :=
  ∀ (s : State) (d : Word) (rest : List Issue),
    (s.incoming = .host 0x2#4 d :: rest → ∃ t, step s = .next t ∧ t.rotationCount = d) ∧
    (s.incoming = .host 0x5#4 d :: rest → ∃ t, step s = .next t ∧ t.fadeDiv.toNat = d.toNat % 256) ∧
    (s.incoming = .host 0x6#4 d :: rest → s.ledEnabled = true → ∃ t, step s = .next t ∧ t.target.r.toNat = d.toNat / 65536 % 256 ∧
      t.target.g.toNat = d.toNat / 256 % 256 ∧ t.target.b.toNat = d.toNat % 256) ∧
    (s.incoming = .host 0x7#4 d :: rest → ∃ t, step s = .next t ∧ t.pressColor.r.toNat = d.toNat / 65536 % 256 ∧
      t.pressColor.g.toNat = d.toNat / 256 % 256 ∧ t.pressColor.b.toNat = d.toNat % 256) ∧
    (s.incoming = .host 0x8#4 d :: rest → ∃ t, step s = .next t ∧ t.cwColor.r.toNat = d.toNat / 65536 % 256 ∧
      t.cwColor.g.toNat = d.toNat / 256 % 256 ∧ t.cwColor.b.toNat = d.toNat % 256) ∧
    (s.incoming = .host 0x9#4 d :: rest → ∃ t, step s = .next t ∧ t.ccwColor.r.toNat = d.toNat / 65536 % 256 ∧
      t.ccwColor.g.toNat = d.toNat / 256 % 256 ∧ t.ccwColor.b.toNat = d.toNat % 256)

/-- 43_host.md, opening rule (D19), with 30_encoding.md section 4: every host word, reserved ones included, writes `rsp`: RD_ROT the count,
RDCLR_PRESS the press count, every other one 0; events never write it. A run returns one response for each host word. -/
def Obligations.EveryHostWordWritesTheResponse : Prop :=
  (∀ (s t : State) (op : Opcode) (d : Word) (rest : List Issue), s.incoming = .host op d :: rest → step s = .next t →
    t.rsp = if op = 0x1#4 then s.rotationCount else if op = 0x3#4 then s.buttonPressCount.setWidth 32 else 0#32) ∧
  (∀ (s t : State) (op : Issue) (rest : List Issue), s.incoming = op :: rest → agentOf op ≠ .host → step s = .next t →
    t.rsp = s.rsp) ∧
  (∀ (k : Nat) (s : State), (responses k s).length = (hostPart (s.incoming.take k)).length)

/-- 10_state.md section 7, the access summary's writes: an operation leaves every field unchanged that the summary does not let it write.
The input list, the model's own field (log 1), is written by none. -/
def Obligations.OperationsWriteOnlyTheFieldsListed : Prop :=
  ∀ (i : Instr) (s t : State), exec i s = .next t →
    ((∀ x, i ≠ .qdecEdge x) → (∀ v, i ≠ .wrRot v) → t.rotationCount = s.rotationCount) ∧
    ((∀ x, i ≠ .qdecEdge x) → t.lastQuadratureSample = s.lastQuadratureSample) ∧
    ((∀ n, i ≠ .btnEdge n) → i ≠ .rdclrPress → t.buttonPressCount = s.buttonPressCount) ∧
    ((∀ n, i ≠ .btnEdge n) → t.lastButtonEventTime = s.lastButtonEventTime) ∧
    ((∀ x, i ≠ .qdecEdge x) → (∀ n, i ≠ .btnEdge n) → i ≠ .tick → (∀ r g b, i ≠ .setColor r g b) →
      t.actual = s.actual ∧ t.target = s.target) ∧
    ((∀ r g b, i ≠ .setPressColor r g b) → t.pressColor = s.pressColor) ∧
    ((∀ r g b, i ≠ .setCwColor r g b) → t.cwColor = s.cwColor) ∧
    ((∀ r g b, i ≠ .setCcwColor r g b) → t.ccwColor = s.ccwColor) ∧
    ((∀ n, i ≠ .setFade n) → t.fadeDiv = s.fadeDiv) ∧
    ((∀ e, i ≠ .ledOut e) → t.ledEnabled = s.ledEnabled) ∧
    (i ≠ .tick → t.tickCount = s.tickCount) ∧
    ((∀ x, i ≠ .qdecEdge x) → (∀ n, i ≠ .btnEdge n) → i ≠ .tick → (∀ r g b, i ≠ .setColor r g b) → (∀ e, i ≠ .ledOut e) →
      t.ledOut = s.ledOut) ∧
    (i.issuer ≠ .host → t.rsp = s.rsp) ∧
    t.incoming = s.incoming

/-- 10_state.md section 8 on host visibility: the host learns nothing but the two counts. Two blocks that agree on the rotation count and
the press count, and are given the same host words and nothing else, return the same responses, whatever their other state. -/
def Obligations.HostReadsNothingButTheTwoCounts : Prop :=
  ∀ (words : List (Opcode × Word)) (s t : State), s.rotationCount = t.rotationCount → s.buttonPressCount = t.buttonPressCount →
    s.incoming = words.map (fun w => Issue.host w.1 w.2) → t.incoming = s.incoming →
    responses words.length s = responses words.length t

/-- 10_state.md section 7, the access summary's reads: the colour state, the presets, the fade engine and the LED outputs do not depend on
the rotation count, the press count or the response register. Two blocks that differ at most in those three go through any run alike. -/
def Obligations.ColorsNeverDependOnTheCounts : Prop :=
  ∀ (k : Nat) (s t u v : State),
    t = { s with rotationCount := t.rotationCount, buttonPressCount := t.buttonPressCount, rsp := t.rsp } →
    runFor k s = .next u → runFor k t = .next v →
    v = { u with rotationCount := v.rotationCount, buttonPressCount := v.buttonPressCount, rsp := v.rsp }

/-! ## Colour selection and the quadrature decoder -/

/-- 40_quadrature.md section 1 (D10, D11): colour selection changes nothing with LED output disabled; otherwise it writes the targets, and
with fading disabled also the actual values and the sink; nothing else ever. -/
def Obligations.SelectColorByEnableAndFadeMode : Prop :=
  ∀ (s : State) (c : Rgb),
    (s.ledEnabled = false → s.selectColor c = s) ∧
    (s.ledEnabled = true → s.fadeDiv.toNat = 0 → s.selectColor c = { s with target := c, actual := c, ledOut := c }) ∧
    (s.ledEnabled = true → 0 < s.fadeDiv.toNat → s.selectColor c = { s with target := c })

/-- 40_quadrature.md section 2, the classification of all sixteen signatures (D3, D4): along the clockwise order 00, 01, 11, 10 the count
goes up by one and the clockwise colour is selected, against it down by one and the counterclockwise colour; a repeated sample or one that
changes both lines changes nothing but the history. -/
def Obligations.QdecEdgeFollowsTheTransitionTable : Prop :=
  ∀ (x : Sample) (d : Word) (s : State),
    decode .encoder (makeWord 0xC#4 d) = .ok (.qdecEdge (BitVec.ofNat 2 d.toNat)) ∧
    ((s.lastQuadratureSample, x) ∈ [(0b00#2, 0b01#2), (0b01#2, 0b11#2), (0b11#2, 0b10#2), (0b10#2, 0b00#2)] →
      exec (.qdecEdge x) s = .next
        { State.selectColor { s with rotationCount := s.rotationCount + 1#32 } s.cwColor with lastQuadratureSample := x }) ∧
    ((x, s.lastQuadratureSample) ∈ [(0b00#2, 0b01#2), (0b01#2, 0b11#2), (0b11#2, 0b10#2), (0b10#2, 0b00#2)] →
      exec (.qdecEdge x) s = .next
        { State.selectColor { s with rotationCount := s.rotationCount - 1#32 } s.ccwColor with lastQuadratureSample := x }) ∧
    (x = s.lastQuadratureSample ∨ x = ~~~s.lastQuadratureSample →
      exec (.qdecEdge x) s = .next { s with lastQuadratureSample := x })

/-- R103 (40_quadrature.md): every QDEC_EDGE, whatever its class, leaves its sample as the history. -/
def Obligations.QdecEdgeAlwaysRecordsTheSample : Prop :=
  ∀ (x : Sample) (s : State), ∃ t, exec (.qdecEdge x) s = .next t ∧ t.lastQuadratureSample = x

/-- 40_quadrature.md section 2 and 30_encoding.md section 5: from a history of 00 the four edges of `cw_cycle` add 4 and those of
`ccw_cycle` take 4, and both come back to 00; the three edges 01, 11, 10 add 3 (90_conflicts.md C1). -/
def Obligations.GrayCycleCountsFour : Prop :=
  ∀ (s : State) (rest : List Issue), s.lastQuadratureSample = 0b00#2 →
    (s.incoming = lineIssues .cwCycle ++ rest → ∃ t, runFor 4 s = .next t ∧ t.rotationCount = s.rotationCount + 4#32 ∧
      t.lastQuadratureSample = 0b00#2 ∧ t.incoming = rest) ∧
    (s.incoming = lineIssues .ccwCycle ++ rest → ∃ t, runFor 4 s = .next t ∧ t.rotationCount = s.rotationCount - 4#32 ∧
      t.lastQuadratureSample = 0b00#2 ∧ t.incoming = rest) ∧
    (s.incoming = [.encoder 0b01#2, .encoder 0b11#2, .encoder 0b10#2] ++ rest → ∃ t, runFor 3 s = .next t ∧
      t.rotationCount = s.rotationCount + 3#32 ∧ t.incoming = rest)

/-- 40_quadrature.md section 2: whatever path of samples the encoder takes, bounces and merged edges included, taking it back the way it
came restores the count. -/
def Obligations.RetracedPathRestoresTheCount : Prop :=
  ∀ (s : State) (path : List Sample) (rest : List Issue),
    s.incoming = (path ++ (path.reverse.tail ++ [s.lastQuadratureSample])).map Issue.encoder ++ rest →
    ∃ t, runFor (path ++ (path.reverse.tail ++ [s.lastQuadratureSample])).length s = .next t ∧
      t.rotationCount = s.rotationCount ∧ t.lastQuadratureSample = s.lastQuadratureSample ∧ t.incoming = rest

/-- 40_quadrature.md section 2, 70_reset_and_hazards.md section 3: the parity of the count plus the parity of the last sample is kept by every
operation but WR_ROT: a one-line change moves both, and an ignored one moves neither. So a merged edge loses an even number of counts. -/
def Obligations.CountParityFollowsTheLines : Prop :=
  ∀ s t : State, step s = .next t → (∀ d rest, s.incoming ≠ .host 0x2#4 d :: rest) →
    (t.rotationCount.toNat + t.lastQuadratureSample.toNat % 2 + t.lastQuadratureSample.toNat / 2) % 2 =
      (s.rotationCount.toNat + s.lastQuadratureSample.toNat % 2 + s.lastQuadratureSample.toNat / 2) % 2

/-! ## The button -/

/-- R110, R112, R113 (41_button.md): BTN_EDGE is opcode 0xD with `now` in the data. With the elapsed time below 150 it changes nothing at
all; otherwise it counts the press once, modulo 2^16, records its time and selects the press colour. -/
def Obligations.BtnEdgeIsAcceptedFrom150 : Prop :=
  (∀ now : Word, decode .button (makeWord 0xD#4 now) = .ok (.btnEdge now)) ∧
  (∀ (now : Word) (s : State),
    ((now.toNat + (4294967296 - s.lastButtonEventTime.toNat)) % 4294967296 < 150 → exec (.btnEdge now) s = .next s) ∧
    (150 ≤ (now.toNat + (4294967296 - s.lastButtonEventTime.toNat)) % 4294967296 → exec (.btnEdge now) s = .next
      (State.selectColor { s with buttonPressCount := BitVec.ofNat 16 (s.buttonPressCount.toNat + 1), lastButtonEventTime := now }
        s.pressColor)))

/-- 70_reset_and_hazards.md section 3 on time wrap (D8): a press that comes a whole number of turns of the 32-bit time plus fewer than 150
units after the last accepted one is discarded, however long ago that was. -/
def Obligations.PressesAliasIntoTheWindowAfterTimeWraps : Prop :=
  ∀ (s : State) (turns d : Nat) (now : Word), d < 150 →
    now = BitVec.ofNat 32 (s.lastButtonEventTime.toNat + turns * 2 ^ 32 + d) → exec (.btnEdge now) s = .next s

/-- 41_button.md: over any run of any operations, each accepted press comes at least 150 units (modulo 2^32) after the accepted one before
it, the first after the time recorded at the start, and the recorded time is that of the last accepted press. -/
def Obligations.AcceptedPressesAreSpacedByTheWindow : Prop :=
  ∀ (k : Nat) (s t : State), runFor k s = .next t →
    debounced s.lastButtonEventTime (acceptedPresses k s) = true ∧
    t.lastButtonEventTime = ((acceptedPresses k s).getLast?).getD s.lastButtonEventTime

/-- 20_memory.md section 2 on RDCLR_PRESS, 70_reset_and_hazards.md section 3: no press is lost. Over any run, what was counted at the start
plus the presses accepted is what was handed out to the host plus what is still counted, modulo the counter's 2^16. -/
def Obligations.NoAcceptedPressIsLost : Prop :=
  ∀ (k : Nat) (s t : State), runFor k s = .next t →
    (s.buttonPressCount.toNat + (acceptedPresses k s).length) % 65536 = (drained k s + t.buttonPressCount.toNat) % 65536

/-! ## The order between agents -/

/-- 20_memory.md section 2 (the spec's decision D18), with the operands held fixed (log 17, DESIGN CHOICE): R6 reads a press's `now` when the
operation is performed, whereas here every press keeps the time of its entry in whatever order it is performed. With the times so fixed,
some order performs what the agents have issued, and whichever order the block performs, the same presses are accepted: so drains and
presses may race, and none is lost or counted twice. -/
def Obligations.PressesAreAcceptedAlikeInEveryOrder : Prop :=
  ∀ p : Pending, IsOrderOf p (agentByAgent p) ∧
    ∀ (s : State) (order other : List Issue), IsOrderOf p order → IsOrderOf p other →
      acceptedPresses order.length (s.withIncoming order) = acceptedPresses other.length (s.withIncoming other)

/-- 20_memory.md section 2 (the spec's decision D18), 40_quadrature.md section 2, with the operands held fixed (log 17, DESIGN CHOICE): R6 and
R101 read an edge's sample when the operation is performed, whereas here every edge keeps the sample of its entry in whatever order it is
performed. With the samples so fixed and no WR_ROT among the host's words, every order of what the agents have issued ends with the same
rotation count and the same encoder history. -/
def Obligations.EdgesCountAlikeInEveryOrder : Prop :=
  ∀ (p : Pending) (s t u : State) (order other : List Issue), (∀ w ∈ p.host, w.1 ≠ 0x2#4) → IsOrderOf p order → IsOrderOf p other →
    runFor order.length (s.withIncoming order) = .next t → runFor other.length (s.withIncoming other) = .next u →
    t.rotationCount = u.rotationCount ∧ t.lastQuadratureSample = u.lastQuadratureSample

/-! ## The fade engine -/

/-- 42_fade.md sections 1 and 2, the gates (D11, D14, D15): opcode 0xE with any data is TICK. With divisor 0 it changes nothing; otherwise it
is counted, modulo 2^32, and that is all it does while LED output is disabled, while every channel is at 255 with target 255, or when the
new count is no multiple of the divisor. -/
def Obligations.TickStopsAtItsGates : Prop :=
  (∀ d : Word, decode .tickSource (makeWord 0xE#4 d) = .ok .tick) ∧
  (∀ s : State, s.fadeDiv = 0#8 → exec .tick s = .next s) ∧
  (∀ s : State, s.fadeDiv ≠ 0#8 →
    (s.ledEnabled = false ∨ (∀ c, s.actual.get c = 255#8 ∧ s.target.get c = 255#8) ∨
      (s.tickCount.toNat + 1) % 4294967296 % s.fadeDiv.toNat ≠ 0) →
    exec .tick s = .next { s with tickCount := BitVec.ofNat 32 (s.tickCount.toNat + 1) })

/-- R126, R127, R128, R129 (42_fade.md): past the gates every channel by itself moves `actual` one unit toward `target`, then a target that is
not 255 and is reached advances by one, alike on all three channels; the sink takes all three actual values. In whole numbers, so nothing
wraps. Nothing else changes but the tick count. Decisions the spec marks as its own (log 6): the tick count is incremented and gate (2)
reads the incremented value (D14), and gate (1) is the condition on the colours (D15). -/
def Obligations.FadeStepMovesEveryChannelByOne : Prop :=
  ∀ s : State, s.fadeDiv ≠ 0#8 → s.ledEnabled = true → (∃ c, s.actual.get c ≠ 255#8 ∨ s.target.get c ≠ 255#8) →
    (s.tickCount.toNat + 1) % 4294967296 % s.fadeDiv.toNat = 0 →
    ∃ act tgt : Rgb,
      exec .tick s = .next { s with tickCount := BitVec.ofNat 32 (s.tickCount.toNat + 1), actual := act, target := tgt, ledOut := act } ∧
      ∀ c : Channel,
        (act.get c).toNat = (if (s.actual.get c).toNat < (s.target.get c).toNat then (s.actual.get c).toNat + 1
          else if (s.target.get c).toNat < (s.actual.get c).toNat then (s.actual.get c).toNat - 1 else (s.actual.get c).toNat) ∧
        (tgt.get c).toNat = (if (s.target.get c).toNat ≠ 255 ∧ (act.get c).toNat = (s.target.get c).toNat
          then (s.target.get c).toNat + 1 else (s.target.get c).toNat)

/-- 42_fade.md section 2 on gate (2) (R125; the count is the incremented one, D14): a tick moves a channel, advances a target or rewrites
the sink to another level only when the count it leaves is a multiple of the divisor, read as an unsigned number from 1 to 255. -/
def Obligations.TickFadesOnlyOnMultiplesOfTheDivisor : Prop :=
  ∀ s t : State, exec .tick s = .next t → (t.actual ≠ s.actual ∨ t.target ≠ s.target ∨ t.ledOut ≠ s.ledOut) →
    1 ≤ s.fadeDiv.toNat ∧ s.fadeDiv.toNat ≤ 255 ∧ t.tickCount.toNat % s.fadeDiv.toNat = 0

/-- 42_fade.md section 3: the order in which the channels are stepped is immaterial. -/
def Obligations.ChannelOrderIsImmaterial : Prop :=
  ∀ (c d : Channel) (s : State), fadeChannel c (fadeChannel d s) = fadeChannel d (fadeChannel c s)

/-- 42_fade.md section 2 on gate (1) (D15): where gate (1) skips the fade step, in a state where the sink shows the actual values, the step
would change nothing: the gate cannot be observed. -/
def Obligations.AllOffGateIsUnobservable : Prop :=
  ∀ s : State, LedOutFollowsActual s → s.ledEnabled = true → (∀ c, s.actual.get c = 255#8 ∧ s.target.get c = 255#8) →
    fadeStep s = s

/-- 42_fade.md section 4, convergence: with nothing but fade steps a channel at `actual = a`, `target = t` is settled at 255 after exactly the
number of steps the four cases give, never before and ever after, and that is at most 510. -/
def Obligations.ChannelSettlesInExactlyTheStatedSteps : Prop :=
  ∀ (s : State) (c : Channel) (n : Nat),
    (Settled c (fadeSteps n s) ↔ settlingSteps (s.actual.get c).toNat (s.target.get c).toNat ≤ n) ∧
    settlingSteps (s.actual.get c).toNat (s.target.get c).toNat ≤ 510

/-- 42_fade.md sections 2 and 4: with LED output and fading enabled, 510 times the divisor ticks in a row bring every channel to rest fully
off, whatever the colours and the tick count, its wrap included. -/
def Obligations.TicksBringTheLedsToRest : Prop :=
  ∀ (s : State) (rest : List Issue), s.ledEnabled = true → s.fadeDiv ≠ 0#8 → LedOutFollowsActual s →
    s.incoming = List.replicate (510 * s.fadeDiv.toNat) Issue.tick ++ rest →
    ∃ t, runFor (510 * s.fadeDiv.toNat) s = .next t ∧ t.actual = ⟨255#8, 255#8, 255#8⟩ ∧ t.target = ⟨255#8, 255#8, 255#8⟩ ∧
      t.ledOut = ⟨255#8, 255#8, 255#8⟩ ∧ t.incoming = rest

/-- 70_reset_and_hazards.md section 3 on the tick counter's wrap (D14): from a count of 0xFFFFFFFF the next tick counts 0 and fades, whatever
the divisor. -/
def Obligations.TickCounterWrapAlwaysFades : Prop :=
  ∀ s : State, s.tickCount = 0xFFFFFFFF#32 → s.fadeDiv ≠ 0#8 → s.ledEnabled = true →
    (∃ c, s.actual.get c ≠ 255#8 ∨ s.target.get c ≠ 255#8) → exec .tick s = .next (fadeStep { s with tickCount := 0#32 })

/-- 42_fade.md section 4, the invariant of the sink (the spec's decisions D10 to D12): every step keeps it. -/
def Obligations.StepKeepsTheSinkShowingActual : Prop :=
  ∀ s t : State, LedOutFollowsActual s → step s = .next t → LedOutFollowsActual t

/-- 42_fade.md section 4: the invariant of the sink (the spec's decisions D10 to D12) holds at reset (D9). -/
def Obligations.ResetSinkShowsActual : Prop := LedOutFollowsActual State.reset

/-- 43_host.md on LED_OUT, 70_reset_and_hazards.md section 3 (D11): once disabled, LED output stays off and the colour state stays as it was
through any run that does not enable it again, so colours selected meanwhile are lost; the next LED_OUT 1 shows the held values. -/
def Obligations.DisabledLedsStayOffAndHoldTheColors : Prop :=
  ∀ (k : Nat) (s t : State), LedOutFollowsActual s → s.ledEnabled = false → (∀ op ∈ s.incoming.take k, enablesLeds op = false) →
    runFor k s = .next t →
    t.ledEnabled = false ∧ t.outputs = ⟨t.rsp, 255#8, 255#8, 255#8⟩ ∧ t.actual = s.actual ∧ t.target = s.target ∧
    exec (.ledOut 1#1) t = .next { t with ledEnabled := true, ledOut := s.actual, rsp := 0#32 }

/-- 42_fade.md section 2, 70_reset_and_hazards.md section 3 (D14, D29): with the divisor 0 a fade stays frozen: ticks and host words other than
LED_OUT, SET_FADE and SET_COLOR leave the colour state, the sink and the tick count as they were. -/
def Obligations.DisabledFadingFreezesTheDisplay : Prop :=
  ∀ (k : Nat) (s t : State), s.fadeDiv = 0#8 →
    (∀ op ∈ s.incoming.take k, op = .tick ∨ ∃ o d, op = .host o d ∧ o ∉ [0x4#4, 0x5#4, 0x6#4]) →
    runFor k s = .next t →
    t.actual = s.actual ∧ t.target = s.target ∧ t.ledOut = s.ledOut ∧ t.tickCount = s.tickCount ∧ t.fadeDiv = 0#8

/-! ## Instances -/

/-- 60_exceptions.md section 7 (D23): a step of one instance leaves every other instance as it was. The list of instances is the model's
(log 15). -/
def Obligations.InstancesAreIndependent : Prop :=
  ∀ (k : Nat) (blocks : List State), ∃ after, stepInstanceAt k blocks = .next after ∧ after.length = blocks.length ∧
    (∀ j, j ≠ k → after[j]? = blocks[j]?) ∧
    (∀ s t, blocks[k]? = some s → step s = .next t → after[k]? = some t)
end

