-- ==== Sys2Proof/Laws/State.lean ====
section
/-! SUPPORT. What every named update of the state does to every field, one lemma a field, so that no proof unfolds an update. -/

namespace Sys2Proof.Machine

/-! ### State.withIncoming -/

@[simp] theorem State.withIncoming_rotationCount (s : State) (ops : List Issue) : (s.withIncoming ops).rotationCount = s.rotationCount := rfl
@[simp] theorem State.withIncoming_lastQuadratureSample (s : State) (ops : List Issue) : (s.withIncoming ops).lastQuadratureSample = s.lastQuadratureSample := rfl
@[simp] theorem State.withIncoming_buttonPressCount (s : State) (ops : List Issue) : (s.withIncoming ops).buttonPressCount = s.buttonPressCount := rfl
@[simp] theorem State.withIncoming_lastButtonEventTime (s : State) (ops : List Issue) : (s.withIncoming ops).lastButtonEventTime = s.lastButtonEventTime := rfl
@[simp] theorem State.withIncoming_actual (s : State) (ops : List Issue) : (s.withIncoming ops).actual = s.actual := rfl
@[simp] theorem State.withIncoming_target (s : State) (ops : List Issue) : (s.withIncoming ops).target = s.target := rfl
@[simp] theorem State.withIncoming_pressColor (s : State) (ops : List Issue) : (s.withIncoming ops).pressColor = s.pressColor := rfl
@[simp] theorem State.withIncoming_cwColor (s : State) (ops : List Issue) : (s.withIncoming ops).cwColor = s.cwColor := rfl
@[simp] theorem State.withIncoming_ccwColor (s : State) (ops : List Issue) : (s.withIncoming ops).ccwColor = s.ccwColor := rfl
@[simp] theorem State.withIncoming_fadeDiv (s : State) (ops : List Issue) : (s.withIncoming ops).fadeDiv = s.fadeDiv := rfl
@[simp] theorem State.withIncoming_ledEnabled (s : State) (ops : List Issue) : (s.withIncoming ops).ledEnabled = s.ledEnabled := rfl
@[simp] theorem State.withIncoming_tickCount (s : State) (ops : List Issue) : (s.withIncoming ops).tickCount = s.tickCount := rfl
@[simp] theorem State.withIncoming_ledOut (s : State) (ops : List Issue) : (s.withIncoming ops).ledOut = s.ledOut := rfl
@[simp] theorem State.withIncoming_rsp (s : State) (ops : List Issue) : (s.withIncoming ops).rsp = s.rsp := rfl
@[simp] theorem State.withIncoming_incoming (s : State) (ops : List Issue) : (s.withIncoming ops).incoming = ops := rfl

@[simp] theorem State.withIncoming_withIncoming (s : State) (a b : List Issue) :
    (s.withIncoming a).withIncoming b = s.withIncoming b := rfl

/-- Giving a state the operations it has already changes nothing. -/
theorem State.withIncoming_self {s : State} {ops : List Issue} (h : s.incoming = ops) : s.withIncoming ops = s := by
  subst h; rfl

/-! ### State.sink -/

@[simp] theorem State.sink_rotationCount (s : State) (c : Rgb) : (s.sink c).rotationCount = s.rotationCount := rfl
@[simp] theorem State.sink_lastQuadratureSample (s : State) (c : Rgb) : (s.sink c).lastQuadratureSample = s.lastQuadratureSample := rfl
@[simp] theorem State.sink_buttonPressCount (s : State) (c : Rgb) : (s.sink c).buttonPressCount = s.buttonPressCount := rfl
@[simp] theorem State.sink_lastButtonEventTime (s : State) (c : Rgb) : (s.sink c).lastButtonEventTime = s.lastButtonEventTime := rfl
@[simp] theorem State.sink_actual (s : State) (c : Rgb) : (s.sink c).actual = s.actual := rfl
@[simp] theorem State.sink_target (s : State) (c : Rgb) : (s.sink c).target = s.target := rfl
@[simp] theorem State.sink_pressColor (s : State) (c : Rgb) : (s.sink c).pressColor = s.pressColor := rfl
@[simp] theorem State.sink_cwColor (s : State) (c : Rgb) : (s.sink c).cwColor = s.cwColor := rfl
@[simp] theorem State.sink_ccwColor (s : State) (c : Rgb) : (s.sink c).ccwColor = s.ccwColor := rfl
@[simp] theorem State.sink_fadeDiv (s : State) (c : Rgb) : (s.sink c).fadeDiv = s.fadeDiv := rfl
@[simp] theorem State.sink_ledEnabled (s : State) (c : Rgb) : (s.sink c).ledEnabled = s.ledEnabled := rfl
@[simp] theorem State.sink_tickCount (s : State) (c : Rgb) : (s.sink c).tickCount = s.tickCount := rfl
@[simp] theorem State.sink_ledOut (s : State) (c : Rgb) : (s.sink c).ledOut = c := rfl
@[simp] theorem State.sink_rsp (s : State) (c : Rgb) : (s.sink c).rsp = s.rsp := rfl
@[simp] theorem State.sink_incoming (s : State) (c : Rgb) : (s.sink c).incoming = s.incoming := rfl

/-! ### State.respond -/

@[simp] theorem State.respond_rotationCount (s : State) (v : Word) : (s.respond v).rotationCount = s.rotationCount := rfl
@[simp] theorem State.respond_lastQuadratureSample (s : State) (v : Word) : (s.respond v).lastQuadratureSample = s.lastQuadratureSample := rfl
@[simp] theorem State.respond_buttonPressCount (s : State) (v : Word) : (s.respond v).buttonPressCount = s.buttonPressCount := rfl
@[simp] theorem State.respond_lastButtonEventTime (s : State) (v : Word) : (s.respond v).lastButtonEventTime = s.lastButtonEventTime := rfl
@[simp] theorem State.respond_actual (s : State) (v : Word) : (s.respond v).actual = s.actual := rfl
@[simp] theorem State.respond_target (s : State) (v : Word) : (s.respond v).target = s.target := rfl
@[simp] theorem State.respond_pressColor (s : State) (v : Word) : (s.respond v).pressColor = s.pressColor := rfl
@[simp] theorem State.respond_cwColor (s : State) (v : Word) : (s.respond v).cwColor = s.cwColor := rfl
@[simp] theorem State.respond_ccwColor (s : State) (v : Word) : (s.respond v).ccwColor = s.ccwColor := rfl
@[simp] theorem State.respond_fadeDiv (s : State) (v : Word) : (s.respond v).fadeDiv = s.fadeDiv := rfl
@[simp] theorem State.respond_ledEnabled (s : State) (v : Word) : (s.respond v).ledEnabled = s.ledEnabled := rfl
@[simp] theorem State.respond_tickCount (s : State) (v : Word) : (s.respond v).tickCount = s.tickCount := rfl
@[simp] theorem State.respond_ledOut (s : State) (v : Word) : (s.respond v).ledOut = s.ledOut := rfl
@[simp] theorem State.respond_rsp (s : State) (v : Word) : (s.respond v).rsp = v := rfl
@[simp] theorem State.respond_incoming (s : State) (v : Word) : (s.respond v).incoming = s.incoming := rfl

/-! ### State.countTick -/

@[simp] theorem State.countTick_rotationCount (s : State) : (s.countTick).rotationCount = s.rotationCount := rfl
@[simp] theorem State.countTick_lastQuadratureSample (s : State) : (s.countTick).lastQuadratureSample = s.lastQuadratureSample := rfl
@[simp] theorem State.countTick_buttonPressCount (s : State) : (s.countTick).buttonPressCount = s.buttonPressCount := rfl
@[simp] theorem State.countTick_lastButtonEventTime (s : State) : (s.countTick).lastButtonEventTime = s.lastButtonEventTime := rfl
@[simp] theorem State.countTick_actual (s : State) : (s.countTick).actual = s.actual := rfl
@[simp] theorem State.countTick_target (s : State) : (s.countTick).target = s.target := rfl
@[simp] theorem State.countTick_pressColor (s : State) : (s.countTick).pressColor = s.pressColor := rfl
@[simp] theorem State.countTick_cwColor (s : State) : (s.countTick).cwColor = s.cwColor := rfl
@[simp] theorem State.countTick_ccwColor (s : State) : (s.countTick).ccwColor = s.ccwColor := rfl
@[simp] theorem State.countTick_fadeDiv (s : State) : (s.countTick).fadeDiv = s.fadeDiv := rfl
@[simp] theorem State.countTick_ledEnabled (s : State) : (s.countTick).ledEnabled = s.ledEnabled := rfl
@[simp] theorem State.countTick_tickCount (s : State) : (s.countTick).tickCount = s.tickCount + 1#32 := rfl
@[simp] theorem State.countTick_ledOut (s : State) : (s.countTick).ledOut = s.ledOut := rfl
@[simp] theorem State.countTick_rsp (s : State) : (s.countTick).rsp = s.rsp := rfl
@[simp] theorem State.countTick_incoming (s : State) : (s.countTick).incoming = s.incoming := rfl

/-! ### State.deliver -/

@[simp] theorem State.deliver_rotationCount (s : State) (op : Issue) : (s.deliver op).rotationCount = s.rotationCount := rfl
@[simp] theorem State.deliver_lastQuadratureSample (s : State) (op : Issue) : (s.deliver op).lastQuadratureSample = s.lastQuadratureSample := rfl
@[simp] theorem State.deliver_buttonPressCount (s : State) (op : Issue) : (s.deliver op).buttonPressCount = s.buttonPressCount := rfl
@[simp] theorem State.deliver_lastButtonEventTime (s : State) (op : Issue) : (s.deliver op).lastButtonEventTime = s.lastButtonEventTime := rfl
@[simp] theorem State.deliver_actual (s : State) (op : Issue) : (s.deliver op).actual = s.actual := rfl
@[simp] theorem State.deliver_target (s : State) (op : Issue) : (s.deliver op).target = s.target := rfl
@[simp] theorem State.deliver_pressColor (s : State) (op : Issue) : (s.deliver op).pressColor = s.pressColor := rfl
@[simp] theorem State.deliver_cwColor (s : State) (op : Issue) : (s.deliver op).cwColor = s.cwColor := rfl
@[simp] theorem State.deliver_ccwColor (s : State) (op : Issue) : (s.deliver op).ccwColor = s.ccwColor := rfl
@[simp] theorem State.deliver_fadeDiv (s : State) (op : Issue) : (s.deliver op).fadeDiv = s.fadeDiv := rfl
@[simp] theorem State.deliver_ledEnabled (s : State) (op : Issue) : (s.deliver op).ledEnabled = s.ledEnabled := rfl
@[simp] theorem State.deliver_tickCount (s : State) (op : Issue) : (s.deliver op).tickCount = s.tickCount := rfl
@[simp] theorem State.deliver_ledOut (s : State) (op : Issue) : (s.deliver op).ledOut = s.ledOut := rfl
@[simp] theorem State.deliver_rsp (s : State) (op : Issue) : (s.deliver op).rsp = s.rsp := rfl
@[simp] theorem State.deliver_incoming (s : State) (op : Issue) : (s.deliver op).incoming = s.incoming ++ [op] := rfl

/-! ### State.selectColor -/

@[simp] theorem State.selectColor_rotationCount (s : State) (t : Rgb) : (s.selectColor t).rotationCount = s.rotationCount := by
  unfold State.selectColor; split <;> (try split) <;> rfl
@[simp] theorem State.selectColor_lastQuadratureSample (s : State) (t : Rgb) : (s.selectColor t).lastQuadratureSample = s.lastQuadratureSample := by
  unfold State.selectColor; split <;> (try split) <;> rfl
@[simp] theorem State.selectColor_buttonPressCount (s : State) (t : Rgb) : (s.selectColor t).buttonPressCount = s.buttonPressCount := by
  unfold State.selectColor; split <;> (try split) <;> rfl
@[simp] theorem State.selectColor_lastButtonEventTime (s : State) (t : Rgb) : (s.selectColor t).lastButtonEventTime = s.lastButtonEventTime := by
  unfold State.selectColor; split <;> (try split) <;> rfl
@[simp] theorem State.selectColor_pressColor (s : State) (t : Rgb) : (s.selectColor t).pressColor = s.pressColor := by
  unfold State.selectColor; split <;> (try split) <;> rfl
@[simp] theorem State.selectColor_cwColor (s : State) (t : Rgb) : (s.selectColor t).cwColor = s.cwColor := by
  unfold State.selectColor; split <;> (try split) <;> rfl
@[simp] theorem State.selectColor_ccwColor (s : State) (t : Rgb) : (s.selectColor t).ccwColor = s.ccwColor := by
  unfold State.selectColor; split <;> (try split) <;> rfl
@[simp] theorem State.selectColor_fadeDiv (s : State) (t : Rgb) : (s.selectColor t).fadeDiv = s.fadeDiv := by
  unfold State.selectColor; split <;> (try split) <;> rfl
@[simp] theorem State.selectColor_ledEnabled (s : State) (t : Rgb) : (s.selectColor t).ledEnabled = s.ledEnabled := by
  unfold State.selectColor; split <;> (try split) <;> rfl
@[simp] theorem State.selectColor_tickCount (s : State) (t : Rgb) : (s.selectColor t).tickCount = s.tickCount := by
  unfold State.selectColor; split <;> (try split) <;> rfl
@[simp] theorem State.selectColor_rsp (s : State) (t : Rgb) : (s.selectColor t).rsp = s.rsp := by
  unfold State.selectColor; split <;> (try split) <;> rfl
@[simp] theorem State.selectColor_incoming (s : State) (t : Rgb) : (s.selectColor t).incoming = s.incoming := by
  unfold State.selectColor; split <;> (try split) <;> rfl

/-! ### State.countTurn -/

@[simp] theorem State.countTurn_lastQuadratureSample (s : State) (d : Turn) : (s.countTurn d).lastQuadratureSample = s.lastQuadratureSample := by
  cases d <;> simp [State.countTurn]
@[simp] theorem State.countTurn_buttonPressCount (s : State) (d : Turn) : (s.countTurn d).buttonPressCount = s.buttonPressCount := by
  cases d <;> simp [State.countTurn]
@[simp] theorem State.countTurn_lastButtonEventTime (s : State) (d : Turn) : (s.countTurn d).lastButtonEventTime = s.lastButtonEventTime := by
  cases d <;> simp [State.countTurn]
@[simp] theorem State.countTurn_pressColor (s : State) (d : Turn) : (s.countTurn d).pressColor = s.pressColor := by
  cases d <;> simp [State.countTurn]
@[simp] theorem State.countTurn_cwColor (s : State) (d : Turn) : (s.countTurn d).cwColor = s.cwColor := by
  cases d <;> simp [State.countTurn]
@[simp] theorem State.countTurn_ccwColor (s : State) (d : Turn) : (s.countTurn d).ccwColor = s.ccwColor := by
  cases d <;> simp [State.countTurn]
@[simp] theorem State.countTurn_fadeDiv (s : State) (d : Turn) : (s.countTurn d).fadeDiv = s.fadeDiv := by
  cases d <;> simp [State.countTurn]
@[simp] theorem State.countTurn_ledEnabled (s : State) (d : Turn) : (s.countTurn d).ledEnabled = s.ledEnabled := by
  cases d <;> simp [State.countTurn]
@[simp] theorem State.countTurn_tickCount (s : State) (d : Turn) : (s.countTurn d).tickCount = s.tickCount := by
  cases d <;> simp [State.countTurn]
@[simp] theorem State.countTurn_rsp (s : State) (d : Turn) : (s.countTurn d).rsp = s.rsp := by
  cases d <;> simp [State.countTurn]
@[simp] theorem State.countTurn_incoming (s : State) (d : Turn) : (s.countTurn d).incoming = s.incoming := by
  cases d <;> simp [State.countTurn]

/-! ### fadeChannel -/

@[simp] theorem fadeChannel_rotationCount (c : Channel) (s : State) : (fadeChannel c s).rotationCount = s.rotationCount := rfl
@[simp] theorem fadeChannel_lastQuadratureSample (c : Channel) (s : State) : (fadeChannel c s).lastQuadratureSample = s.lastQuadratureSample := rfl
@[simp] theorem fadeChannel_buttonPressCount (c : Channel) (s : State) : (fadeChannel c s).buttonPressCount = s.buttonPressCount := rfl
@[simp] theorem fadeChannel_lastButtonEventTime (c : Channel) (s : State) : (fadeChannel c s).lastButtonEventTime = s.lastButtonEventTime := rfl
@[simp] theorem fadeChannel_pressColor (c : Channel) (s : State) : (fadeChannel c s).pressColor = s.pressColor := rfl
@[simp] theorem fadeChannel_cwColor (c : Channel) (s : State) : (fadeChannel c s).cwColor = s.cwColor := rfl
@[simp] theorem fadeChannel_ccwColor (c : Channel) (s : State) : (fadeChannel c s).ccwColor = s.ccwColor := rfl
@[simp] theorem fadeChannel_fadeDiv (c : Channel) (s : State) : (fadeChannel c s).fadeDiv = s.fadeDiv := rfl
@[simp] theorem fadeChannel_ledEnabled (c : Channel) (s : State) : (fadeChannel c s).ledEnabled = s.ledEnabled := rfl
@[simp] theorem fadeChannel_tickCount (c : Channel) (s : State) : (fadeChannel c s).tickCount = s.tickCount := rfl
@[simp] theorem fadeChannel_ledOut (c : Channel) (s : State) : (fadeChannel c s).ledOut = s.ledOut := rfl
@[simp] theorem fadeChannel_rsp (c : Channel) (s : State) : (fadeChannel c s).rsp = s.rsp := rfl
@[simp] theorem fadeChannel_incoming (c : Channel) (s : State) : (fadeChannel c s).incoming = s.incoming := rfl

/-! ### fadeStep -/

@[simp] theorem fadeStep_rotationCount (s : State) : (fadeStep s).rotationCount = s.rotationCount := rfl
@[simp] theorem fadeStep_lastQuadratureSample (s : State) : (fadeStep s).lastQuadratureSample = s.lastQuadratureSample := rfl
@[simp] theorem fadeStep_buttonPressCount (s : State) : (fadeStep s).buttonPressCount = s.buttonPressCount := rfl
@[simp] theorem fadeStep_lastButtonEventTime (s : State) : (fadeStep s).lastButtonEventTime = s.lastButtonEventTime := rfl
@[simp] theorem fadeStep_pressColor (s : State) : (fadeStep s).pressColor = s.pressColor := rfl
@[simp] theorem fadeStep_cwColor (s : State) : (fadeStep s).cwColor = s.cwColor := rfl
@[simp] theorem fadeStep_ccwColor (s : State) : (fadeStep s).ccwColor = s.ccwColor := rfl
@[simp] theorem fadeStep_fadeDiv (s : State) : (fadeStep s).fadeDiv = s.fadeDiv := rfl
@[simp] theorem fadeStep_ledEnabled (s : State) : (fadeStep s).ledEnabled = s.ledEnabled := rfl
@[simp] theorem fadeStep_tickCount (s : State) : (fadeStep s).tickCount = s.tickCount := rfl
@[simp] theorem fadeStep_ledOut (s : State) : (fadeStep s).ledOut = (fadeStep s).actual := rfl
@[simp] theorem fadeStep_rsp (s : State) : (fadeStep s).rsp = s.rsp := rfl
@[simp] theorem fadeStep_incoming (s : State) : (fadeStep s).incoming = s.incoming := rfl

/-! ### State.gatedFade -/

@[simp] theorem State.gatedFade_rotationCount (s : State) : (s.gatedFade).rotationCount = s.rotationCount := by
  unfold State.gatedFade; split <;> simp
@[simp] theorem State.gatedFade_lastQuadratureSample (s : State) : (s.gatedFade).lastQuadratureSample = s.lastQuadratureSample := by
  unfold State.gatedFade; split <;> simp
@[simp] theorem State.gatedFade_buttonPressCount (s : State) : (s.gatedFade).buttonPressCount = s.buttonPressCount := by
  unfold State.gatedFade; split <;> simp
@[simp] theorem State.gatedFade_lastButtonEventTime (s : State) : (s.gatedFade).lastButtonEventTime = s.lastButtonEventTime := by
  unfold State.gatedFade; split <;> simp
@[simp] theorem State.gatedFade_pressColor (s : State) : (s.gatedFade).pressColor = s.pressColor := by
  unfold State.gatedFade; split <;> simp
@[simp] theorem State.gatedFade_cwColor (s : State) : (s.gatedFade).cwColor = s.cwColor := by
  unfold State.gatedFade; split <;> simp
@[simp] theorem State.gatedFade_ccwColor (s : State) : (s.gatedFade).ccwColor = s.ccwColor := by
  unfold State.gatedFade; split <;> simp
@[simp] theorem State.gatedFade_fadeDiv (s : State) : (s.gatedFade).fadeDiv = s.fadeDiv := by
  unfold State.gatedFade; split <;> simp
@[simp] theorem State.gatedFade_ledEnabled (s : State) : (s.gatedFade).ledEnabled = s.ledEnabled := by
  unfold State.gatedFade; split <;> simp
@[simp] theorem State.gatedFade_tickCount (s : State) : (s.gatedFade).tickCount = s.tickCount := by
  unfold State.gatedFade; split <;> simp
@[simp] theorem State.gatedFade_rsp (s : State) : (s.gatedFade).rsp = s.rsp := by
  unfold State.gatedFade; split <;> simp
@[simp] theorem State.gatedFade_incoming (s : State) : (s.gatedFade).incoming = s.incoming := by
  unfold State.gatedFade; split <;> simp

/-! ### State.withFetchWord -/

@[simp] theorem State.withFetchWord_rotationCount (s : State) (n w : Nat) : (s.withFetchWord n w).rotationCount = s.rotationCount := rfl
@[simp] theorem State.withFetchWord_lastQuadratureSample (s : State) (n w : Nat) : (s.withFetchWord n w).lastQuadratureSample = s.lastQuadratureSample := rfl
@[simp] theorem State.withFetchWord_buttonPressCount (s : State) (n w : Nat) : (s.withFetchWord n w).buttonPressCount = s.buttonPressCount := rfl
@[simp] theorem State.withFetchWord_lastButtonEventTime (s : State) (n w : Nat) : (s.withFetchWord n w).lastButtonEventTime = s.lastButtonEventTime := rfl
@[simp] theorem State.withFetchWord_actual (s : State) (n w : Nat) : (s.withFetchWord n w).actual = s.actual := rfl
@[simp] theorem State.withFetchWord_target (s : State) (n w : Nat) : (s.withFetchWord n w).target = s.target := rfl
@[simp] theorem State.withFetchWord_pressColor (s : State) (n w : Nat) : (s.withFetchWord n w).pressColor = s.pressColor := rfl
@[simp] theorem State.withFetchWord_cwColor (s : State) (n w : Nat) : (s.withFetchWord n w).cwColor = s.cwColor := rfl
@[simp] theorem State.withFetchWord_ccwColor (s : State) (n w : Nat) : (s.withFetchWord n w).ccwColor = s.ccwColor := rfl
@[simp] theorem State.withFetchWord_fadeDiv (s : State) (n w : Nat) : (s.withFetchWord n w).fadeDiv = s.fadeDiv := rfl
@[simp] theorem State.withFetchWord_ledEnabled (s : State) (n w : Nat) : (s.withFetchWord n w).ledEnabled = s.ledEnabled := rfl
@[simp] theorem State.withFetchWord_tickCount (s : State) (n w : Nat) : (s.withFetchWord n w).tickCount = s.tickCount := rfl
@[simp] theorem State.withFetchWord_ledOut (s : State) (n w : Nat) : (s.withFetchWord n w).ledOut = s.ledOut := rfl
@[simp] theorem State.withFetchWord_rsp (s : State) (n w : Nat) : (s.withFetchWord n w).rsp = s.rsp := rfl
@[simp] theorem State.withFetchWord_incoming (s : State) (n w : Nat) : (s.withFetchWord n w).incoming = issueOfWord (BitVec.ofNat 36 (w % 2 ^ n)) :: s.incoming := rfl

end Sys2Proof.Machine
end

