-- ==== Sys2Proof/Laws/Operations.lean ====
section
/-! SUPPORT. What each shared operation can do, once: the proofs cite these instead of unfolding it. -/

namespace Sys2Proof.Machine

/-! ### Triples and words -/

@[simp] theorem Rgb_get_set_same (x : Rgb) (c : Channel) (v : Byte) : (x.set c v).get c = v := by
  cases c <;> rfl

theorem Rgb_get_set_other (x : Rgb) {c d : Channel} (v : Byte) (h : d ≠ c) : (x.set c v).get d = x.get d := by
  cases c <;> cases d <;> first | rfl | exact absurd rfl h

/-- Two triples are equal when they agree on every channel. -/
theorem Rgb_eq_of_get {x y : Rgb} (h : ∀ c, x.get c = y.get c) : x = y := by
  cases x; cases y
  have hr := h .r; have hg := h .g; have hb := h .b
  simp only [Rgb.get] at hr hg hb
  simp [hr, hg, hb]

@[simp] theorem opField_makeWord (op : Opcode) (d : Word) : opField (makeWord op d) = op := by
  apply BitVec.eq_of_getLsbD_eq
  intro i hi
  simp only [opField, makeWord, BitVec.getLsbD_append, BitVec.getLsbD_extractLsb']
  have h1 : ¬ 32 + i < 32 := by omega
  have h2 : 32 + i - 32 = i := by omega
  simp [hi, h1, h2]

@[simp] theorem dataField_makeWord (op : Opcode) (d : Word) : dataField (makeWord op d) = d := by
  apply BitVec.eq_of_getLsbD_eq
  intro i hi
  simp only [dataField, makeWord, BitVec.getLsbD_append, BitVec.getLsbD_extractLsb']
  simp [hi]

/-- A word is its two fields. -/
theorem makeWord_fields (w : OpWord) : makeWord (opField w) (dataField w) = w := by
  apply BitVec.eq_of_getLsbD_eq
  intro i hi
  simp only [opField, dataField, makeWord, BitVec.getLsbD_append, BitVec.getLsbD_extractLsb']
  split
  · simp_all
  · have : i - 32 < 4 := by omega
    have : 32 + (i - 32) = i := by omega
    simp_all

/-! ### Colour selection -/

/-- Everything SelectColor can do (R100). -/
theorem selectColor_cases (s : State) (c : Rgb) :
    (s.ledEnabled = false ∧ s.selectColor c = s) ∨
    (s.ledEnabled = true ∧ s.fadeDiv = 0#8 ∧ s.selectColor c = { s with target := c, actual := c, ledOut := c }) ∨
    (s.ledEnabled = true ∧ s.fadeDiv ≠ 0#8 ∧ s.selectColor c = { s with target := c }) := by
  cases hl : s.ledEnabled
  · exact .inl ⟨rfl, by simp [State.selectColor, hl]⟩
  · by_cases hf : s.fadeDiv = 0#8
    · exact .inr (.inl ⟨rfl, hf, by simp [State.selectColor, State.fadeEnabled, State.sink, hl, hf]⟩)
    · exact .inr (.inr ⟨rfl, hf, by simp [State.selectColor, State.fadeEnabled, hl, hf]⟩)

/-! ### The fade step -/

theorem fadeChannel_actual_same (c : Channel) (s : State) :
    (fadeChannel c s).actual.get c = stepToward (s.actual.get c) (s.target.get c) := by simp [fadeChannel]

theorem fadeChannel_target_same (c : Channel) (s : State) : (fadeChannel c s).target.get c =
    advanceTarget (stepToward (s.actual.get c) (s.target.get c)) (s.target.get c) := by simp [fadeChannel]

theorem fadeChannel_actual_other {c d : Channel} (s : State) (h : d ≠ c) :
    (fadeChannel c s).actual.get d = s.actual.get d := by simp [fadeChannel, Rgb_get_set_other _ _ h]

theorem fadeChannel_target_other {c d : Channel} (s : State) (h : d ≠ c) :
    (fadeChannel c s).target.get d = s.target.get d := by simp [fadeChannel, Rgb_get_set_other _ _ h]

/-- A fade step on one channel's `actual` (R126). -/
theorem fadeStep_actual_get (s : State) (c : Channel) :
    (fadeStep s).actual.get c = stepToward (s.actual.get c) (s.target.get c) := by
  cases c <;> rfl

/-- A fade step on one channel's `target` (R127). -/
theorem fadeStep_target_get (s : State) (c : Channel) : (fadeStep s).target.get c =
    advanceTarget (stepToward (s.actual.get c) (s.target.get c)) (s.target.get c) := by
  cases c <;> rfl

/-- The step of `actual` in whole numbers: nothing wraps (R130). -/
theorem stepToward_toNat (a t : Byte) : (stepToward a t).toNat =
    if a.toNat < t.toNat then a.toNat + 1 else if t.toNat < a.toNat then a.toNat - 1 else a.toNat := by
  simp only [stepToward, BitVec.ult, decide_eq_true_eq]
  split
  · rw [BitVec.toNat_add]; simp; omega
  · split
    · rw [BitVec.toNat_sub]; simp; omega
    · rfl

/-- The advance of `target` in whole numbers: nothing wraps (R130). -/
theorem advanceTarget_toNat (a t : Byte) : (advanceTarget a t).toNat =
    if t.toNat ≠ 255 ∧ a.toNat = t.toNat then t.toNat + 1 else t.toNat := by
  have h255 : t = off ↔ t.toNat = 255 := by
    rw [← BitVec.toNat_inj]; rfl
  have hat : a = t ↔ a.toNat = t.toNat := by rw [BitVec.toNat_inj]
  simp only [advanceTarget, ne_eq, h255, hat]
  split
  · rw [BitVec.toNat_add]; simp; omega
  · rfl

/-! ### The step and runs -/

/-- With nothing issued the state stays. -/
theorem step_of_incoming_nil {s : State} (h : s.incoming = []) : step s = .next s := by
  simp [step, State.fetch, h]

/-- With an operation issued, the step performs it on the rest. -/
theorem step_of_incoming_cons {s : State} {op : Issue} {rest : List Issue} (h : s.incoming = op :: rest) :
    step s = perform op (s.withIncoming rest) := by simp [step, State.fetch, h]

@[simp] theorem perform_encoder (x : Sample) (s : State) : perform (.encoder x) s = execQdecEdge x s := by
  have : sampleField (x.setWidth 32) = x := by
    apply BitVec.eq_of_getLsbD_eq; intro i hi; simp [sampleField, hi]; omega
  simp [perform, decode, agentOf, wordOf, exec, this]

@[simp] theorem perform_button (now : Word) (s : State) : perform (.button now) s = execBtnEdge now s := by
  simp [perform, decode, agentOf, wordOf, exec]

@[simp] theorem perform_tick (s : State) : perform .tick s = execTick s := by
  simp [perform, decode, agentOf, wordOf, exec]

/-- A host word performs what its opcode and data decode to, or only answers 0. -/
theorem perform_host (op : Opcode) (d : Word) (s : State) : perform (.host op d) s =
    match decodeHost op d with
    | .ok i => exec i s
    | .error e => performRejected e s := by
  have h : decode (agentOf (.host op d)) (wordOf (.host op d)) = decodeHost op d := by simp [decode, agentOf, wordOf]
  cases hd : decodeHost op d <;> simp [perform, h, hd]

@[simp] theorem runFor_zero (s : State) : runFor 0 s = .next s := rfl

/-- A run of one more step. -/
theorem runFor_succ (k : Nat) (s : State) : runFor (k + 1) s =
    match step s with
    | .next t => runFor k t
    | .fault f => .fault f
    | .refused r => .refused r := by
  have h : core.step s = step s := rfl
  simp only [runFor, Host.Core.run, h]
  cases step s <;> rfl

/-- A run past a step that answers. -/
theorem runFor_succ_of_step {k : Nat} {s t : State} (h : step s = .next t) : runFor (k + 1) s = runFor k t := by
  rw [runFor_succ, h]

end Sys2Proof.Machine
end

