-- ==== Sys2Proof/Laws/Operands.lean ====
section
/-! SUPPORT. The operand fields read back what the assembly of a word puts there, and re-assembling the fields of a word clears exactly
its ignored bits (R72, R73, R75). -/

namespace Sys2Proof.Machine

@[simp] theorem redField_packRgb (r g b : Byte) : redField (packRgb r g b) = r := by
  apply BitVec.eq_of_getLsbD_eq; intro i hi
  have h1 : ¬ 16 + i < 8 := by omega
  have h2 : ¬ 16 + i - 8 < 8 := by omega
  have h3 : 16 + i - 8 - 8 = i := by omega
  simp only [redField, packRgb, BitVec.getLsbD_append, BitVec.getLsbD_extractLsb', h1, h2, h3, hi]
  simp

@[simp] theorem greenField_packRgb (r g b : Byte) : greenField (packRgb r g b) = g := by
  apply BitVec.eq_of_getLsbD_eq; intro i hi
  have h1 : ¬ 8 + i < 8 := by omega
  have h2 : 8 + i - 8 = i := by omega
  simp only [greenField, packRgb, BitVec.getLsbD_append, BitVec.getLsbD_extractLsb', h1, h2, hi]
  simp

@[simp] theorem blueField_packRgb (r g b : Byte) : blueField (packRgb r g b) = b := by
  apply BitVec.eq_of_getLsbD_eq; intro i hi
  simp only [blueField, packRgb, BitVec.getLsbD_append, BitVec.getLsbD_extractLsb', hi]
  simp [hi]

@[simp] theorem enableField_setWidth (e : BitVec 1) : enableField (e.setWidth 32) = e := by
  have : ∀ e : BitVec 1, enableField (e.setWidth 32) = e := by decide
  exact this e

@[simp] theorem divisorField_setWidth (n : Byte) : divisorField (n.setWidth 32) = n := by
  apply BitVec.eq_of_getLsbD_eq; intro i hi
  simp [divisorField, hi]; omega

@[simp] theorem sampleField_setWidth (x : Sample) : sampleField (x.setWidth 32) = x := by
  apply BitVec.eq_of_getLsbD_eq; intro i hi
  simp [sampleField, hi]; omega

theorem packRgb_fields (d : Word) : packRgb (redField d) (greenField d) (blueField d) = d &&& 0x00FFFFFF#32 := by
  apply BitVec.eq_of_getLsbD_eq; intro i hi
  simp only [redField, greenField, blueField, packRgb, BitVec.getLsbD_append, BitVec.getLsbD_extractLsb', BitVec.getLsbD_and]
  interval_cases i <;> simp

theorem enableField_mask (d : Word) : (enableField d).setWidth 32 = d &&& 0x00000001#32 := by
  apply BitVec.eq_of_getLsbD_eq; intro i hi
  simp only [enableField, BitVec.getLsbD_setWidth, BitVec.getLsbD_extractLsb', BitVec.getLsbD_and]
  interval_cases i <;> simp

theorem divisorField_mask (d : Word) : (divisorField d).setWidth 32 = d &&& 0x000000FF#32 := by
  apply BitVec.eq_of_getLsbD_eq; intro i hi
  simp only [divisorField, BitVec.getLsbD_setWidth, BitVec.getLsbD_extractLsb', BitVec.getLsbD_and]
  interval_cases i <;> simp

theorem sampleField_mask (d : Word) : (sampleField d).setWidth 32 = d &&& 0x00000003#32 := by
  apply BitVec.eq_of_getLsbD_eq; intro i hi
  simp only [sampleField, BitVec.getLsbD_setWidth, BitVec.getLsbD_extractLsb', BitVec.getLsbD_and]
  interval_cases i <;> simp

theorem word_mask (d : Word) : d &&& 0xFFFFFFFF#32 = d := by
  apply BitVec.eq_of_getLsbD_eq; intro i hi
  simp only [BitVec.getLsbD_and]
  interval_cases i <;> simp

/-- The fields of a colour operand as whole numbers (R72). -/
theorem rgbFields_toNat (d : Word) : (redField d).toNat = d.toNat / 65536 % 256 ∧
    (greenField d).toNat = d.toNat / 256 % 256 ∧ (blueField d).toNat = d.toNat % 256 := by
  simp [redField, greenField, blueField, BitVec.extractLsb', Nat.shiftRight_eq_div_pow]

/-- The divisor operand as a whole number (R73). -/
theorem divisorField_toNat (d : Word) : (divisorField d).toNat = d.toNat % 256 := by
  simp [divisorField, BitVec.extractLsb']

/-- A word as a whole number (R70). -/
theorem makeWord_toNat (op : Opcode) (d : Word) : (makeWord op d).toNat = op.toNat * 4294967296 + d.toNat := by
  have h := d.isLt
  rw [makeWord, BitVec.toNat_append, ← Nat.shiftLeft_add_eq_or_of_lt h, Nat.shiftLeft_eq]

/-- A colour operand as a whole number (R72). -/
theorem packRgb_toNat (r g b : Byte) : (packRgb r g b).toNat = r.toNat * 65536 + g.toNat * 256 + b.toNat := by
  have hg := g.isLt
  have hb := b.isLt
  rw [packRgb, BitVec.toNat_append, ← Nat.shiftLeft_add_eq_or_of_lt hb, BitVec.toNat_append,
    ← Nat.shiftLeft_add_eq_or_of_lt hg, BitVec.toNat_append]
  simp [Nat.shiftLeft_eq]
  omega

end Sys2Proof.Machine
end

