-- ==== Sys2Proof/Laws/Steps.lean ====
section
/-! SUPPORT. What the operation at each port can do to the fields other than the colours, once: the inversion lemmas from which the
properties of runs follow. -/

namespace Sys2Proof.Machine

/-- The event lies inside the debounce window, in whole numbers (R112). -/
theorem bouncing_iff (s : State) (now : Word) : s.bouncing now = true ↔ (now - s.lastButtonEventTime).toNat < 150 := by
  simp [State.bouncing, State.elapsed, BitVec.ult, debounceT]

/-- A count that wraps is still another count. -/
theorem pressCount_add_one_ne (x : PressCount) : x + 1#16 ≠ x := by
  intro h
  have := congrArg BitVec.toNat h
  simp [BitVec.toNat_add] at this
  omega

/-- Everything a host word can do to the fields other than colours and configuration (R76, R140 to R149). -/
theorem perform_host_effect {op : Opcode} {d : Word} {s t : State} (h : perform (.host op d) s = .next t) :
    t.lastQuadratureSample = s.lastQuadratureSample ∧ t.lastButtonEventTime = s.lastButtonEventTime ∧
    t.tickCount = s.tickCount ∧ t.incoming = s.incoming ∧
    t.rotationCount = (if op = 0x2#4 then d else s.rotationCount) ∧
    t.buttonPressCount = (if op = 0x3#4 then 0#16 else s.buttonPressCount) ∧
    t.rsp = if op = 0x1#4 then s.rotationCount else if op = 0x3#4 then s.buttonPressCount.setWidth 32 else 0#32 := by
  rw [perform_host] at h
  generalize hx : decodeHost op d = r at h
  unfold decodeHost at hx
  split at hx
  all_goals subst hx
  all_goals
    simp only [performRejected, exec, execRdRot, execWrRot, execRdclrPress, execLedOut, execSetFade, execSetColor,
      execSetPressColor, execSetCwColor, execSetCcwColor] at h
  all_goals (try split at h)
  all_goals cases h
  all_goals simp
  all_goals simp_all

/-- Everything an encoder edge does to the fields other than the colours (R101, R103). -/
theorem perform_encoder_effect (x : Sample) (s : State) : ∃ t, perform (.encoder x) s = .next t ∧
    t.rsp = s.rsp ∧ t.buttonPressCount = s.buttonPressCount ∧ t.lastButtonEventTime = s.lastButtonEventTime ∧
    t.tickCount = s.tickCount ∧ t.incoming = s.incoming ∧ t.lastQuadratureSample = x ∧
    t.rotationCount = (match classify (signature x s.lastQuadratureSample) with
      | .cw => s.rotationCount + 1#32
      | .ccw => s.rotationCount - 1#32
      | .ignored => s.rotationCount) := by
  refine ⟨_, by rw [perform_encoder]; rfl, ?_⟩
  cases h : classify (signature x s.lastQuadratureSample) <;> simp [State.countTurn]

/-- Everything a button event does to the fields other than the colours (R110, R113). -/
theorem perform_button_effect (now : Word) (s : State) : ∃ t, perform (.button now) s = .next t ∧
    t.rsp = s.rsp ∧ t.rotationCount = s.rotationCount ∧ t.tickCount = s.tickCount ∧ t.incoming = s.incoming ∧
    t.lastQuadratureSample = s.lastQuadratureSample ∧
    (((now - s.lastButtonEventTime).toNat < 150 ∧ t = s) ∨
      (150 ≤ (now - s.lastButtonEventTime).toNat ∧ t.buttonPressCount = s.buttonPressCount + 1#16 ∧
        t.lastButtonEventTime = now)) := by
  by_cases h : s.bouncing now = true
  · exact ⟨s, by simp [execBtnEdge, h], rfl, rfl, rfl, rfl, rfl, .inl ⟨(bouncing_iff s now).1 h, rfl⟩⟩
  · have h' := h
    rw [bouncing_iff] at h
    refine ⟨_, by rw [perform_button, execBtnEdge, if_neg h'], ?_⟩
    simp only [State.selectColor_rsp, State.selectColor_rotationCount, State.selectColor_tickCount, State.selectColor_incoming,
      State.selectColor_lastQuadratureSample, State.selectColor_buttonPressCount, State.selectColor_lastButtonEventTime,
      true_and, and_true]
    right
    omega

/-- Everything a tick does to the fields other than the colours (R120 to R122). -/
theorem perform_tick_effect (s : State) : ∃ t, perform .tick s = .next t ∧
    t.rsp = s.rsp ∧ t.rotationCount = s.rotationCount ∧ t.incoming = s.incoming ∧
    t.lastQuadratureSample = s.lastQuadratureSample ∧ t.buttonPressCount = s.buttonPressCount ∧
    t.lastButtonEventTime = s.lastButtonEventTime ∧ t.fadeDiv = s.fadeDiv ∧ t.ledEnabled = s.ledEnabled ∧
    t.tickCount = (if s.fadeDiv = 0#8 then s.tickCount else s.tickCount + 1#32) := by
  rw [perform_tick]
  unfold execTick State.fadeEnabled
  by_cases h : s.fadeDiv = 0#8 <;> simp [h]

end Sys2Proof.Machine
end

