-- ==== Sys2Proof/Laws/Conditions.lean ====
section
/-! SUPPORT. The conditions of the fade engine in the terms of its rules. -/

namespace Sys2Proof.Machine

/-- Gate (1) is closed exactly when every channel is at 255 with target 255 (R124). -/
theorem allChannelsOff_iff (s : State) :
    s.allChannelsOff = true ↔ ∀ c, s.actual.get c = 255#8 ∧ s.target.get c = 255#8 := by
  simp only [State.allChannelsOff, Bool.and_eq_true, beq_iff_eq]
  constructor
  · rintro ⟨h1, h2⟩ c
    rw [h1, h2]
    cases c <;> exact ⟨rfl, rfl⟩
  · intro h
    exact ⟨Rgb_eq_of_get fun c => by rw [(h c).1]; cases c <;> rfl, Rgb_eq_of_get fun c => by rw [(h c).2]; cases c <;> rfl⟩

/-- Gate (2) is open exactly when the count is a multiple of the divisor, as whole numbers (R125). -/
theorem fadeDue_iff (s : State) : s.fadeDue = true ↔ s.tickCount.toNat % s.fadeDiv.toNat = 0 := by
  simp only [State.fadeDue, beq_iff_eq, ← BitVec.toNat_inj, BitVec.toNat_umod, BitVec.toNat_setWidth]
  have := s.fadeDiv.isLt
  rw [Nat.mod_eq_of_lt (a := s.fadeDiv.toNat) (by omega)]
  simp

/-- An enabled tick past the gates performs a fade step; closed gates leave the state. -/
theorem gatedFade_cases (s : State) :
    (s.ledEnabled = true ∧ (∃ c, s.actual.get c ≠ 255#8 ∨ s.target.get c ≠ 255#8) ∧
      s.tickCount.toNat % s.fadeDiv.toNat = 0 ∧ s.gatedFade = fadeStep s) ∨
    ((s.ledEnabled = false ∨ (∀ c, s.actual.get c = 255#8 ∧ s.target.get c = 255#8) ∨
      s.tickCount.toNat % s.fadeDiv.toNat ≠ 0) ∧ s.gatedFade = s) := by
  by_cases h : (s.ledEnabled && !s.allChannelsOff && s.fadeDue) = true
  · left
    have hg : s.gatedFade = fadeStep s := by unfold State.gatedFade; rw [if_pos h]
    simp only [Bool.and_eq_true, Bool.not_eq_true', fadeDue_iff] at h
    refine ⟨h.1.1, ?_, h.2, hg⟩
    by_contra hc
    simp only [not_exists, not_or, not_not] at hc
    have := (allChannelsOff_iff s).2 hc
    simp [this] at h
  · right
    refine ⟨?_, by unfold State.gatedFade; rw [if_neg h]⟩
    simp only [Bool.and_eq_true, Bool.not_eq_true', fadeDue_iff, not_and] at h
    by_cases hl : s.ledEnabled = true
    · by_cases ho : s.allChannelsOff = true
      · exact .inr (.inl ((allChannelsOff_iff s).1 ho))
      · exact .inr (.inr (h ⟨hl, by simpa using ho⟩))
    · exact .inl (by simpa using hl)

end Sys2Proof.Machine
end

