-- ==== Sys2Proof/Laws/PerInstr.lean ====
section
/-! SUPPORT. Statements about every operation as syntax, one lemma a constructor. OpcodeField: the opcode stands in bits 35:32 of the
operation's word, and the row of the table it selects is issued by the operation's own agent (R70, R74). -/

namespace Sys2Proof.Laws

open Sys2Proof.Machine

/-- The opcode field of the word, and the agent that issues its row. -/
def OpcodeField.Statement (i : Instr) : Prop :=
  opField (encode i) = opcodeOf i ∧ issuerOfOpcode (opField (encode i)) = i.issuer

theorem OpcodeField.rdRot : OpcodeField.Statement .rdRot := by simp [OpcodeField.Statement, encode]; rfl
theorem OpcodeField.wrRot (v : Word) : OpcodeField.Statement (.wrRot v) := by simp [OpcodeField.Statement, encode]; rfl
theorem OpcodeField.rdclrPress : OpcodeField.Statement .rdclrPress := by simp [OpcodeField.Statement, encode]; rfl
theorem OpcodeField.ledOut (e : BitVec 1) : OpcodeField.Statement (.ledOut e) := by simp [OpcodeField.Statement, encode]; rfl
theorem OpcodeField.setFade (n : Byte) : OpcodeField.Statement (.setFade n) := by simp [OpcodeField.Statement, encode]; rfl
theorem OpcodeField.setColor (r g b : Byte) : OpcodeField.Statement (.setColor r g b) := by
  simp [OpcodeField.Statement, encode]; rfl
theorem OpcodeField.setPressColor (r g b : Byte) : OpcodeField.Statement (.setPressColor r g b) := by
  simp [OpcodeField.Statement, encode]; rfl
theorem OpcodeField.setCwColor (r g b : Byte) : OpcodeField.Statement (.setCwColor r g b) := by
  simp [OpcodeField.Statement, encode]; rfl
theorem OpcodeField.setCcwColor (r g b : Byte) : OpcodeField.Statement (.setCcwColor r g b) := by
  simp [OpcodeField.Statement, encode]; rfl
theorem OpcodeField.qdecEdge (sample : Sample) : OpcodeField.Statement (.qdecEdge sample) := by
  simp [OpcodeField.Statement, encode]; rfl
theorem OpcodeField.btnEdge (now : Word) : OpcodeField.Statement (.btnEdge now) := by
  simp [OpcodeField.Statement, encode]; rfl
theorem OpcodeField.tick : OpcodeField.Statement .tick := by simp [OpcodeField.Statement, encode]; rfl

end Sys2Proof.Laws
end

