-- ==== Sys2Proof/Laws/Rejected.lean ====
section
/-! SUPPORT. A port's word always decodes, so the model's choice for one that would not (log 5) is never taken. -/

namespace Sys2Proof.Machine

/-- Only a host word can fail to decode, and then only for a reserved opcode (R74, R76). -/
theorem decode_error_only_reserved {op : Issue} {e : DecodeError} (h : decode (agentOf op) (wordOf op) = .error e) :
    ∃ o d, op = .host o d ∧ e = .reservedHostOpcode o := by
  cases op with
  | host o d =>
    simp only [agentOf, wordOf, decode, opField_makeWord, dataField_makeWord] at h
    unfold decodeHost at h
    split at h <;> cases h
    exact ⟨_, _, rfl, rfl⟩
  | encoder x => simp [agentOf, wordOf, decode] at h
  | button now => simp [agentOf, wordOf, decode] at h
  | tick => simp [agentOf, wordOf, decode] at h

end Sys2Proof.Machine
end

