-- ==== Sys2Proof/Tests/Slice0.lean ====
section
/-! SUPPORT. Small tests. Expected results come from spec/95_test_vectors.md (the vector is named) or are written out from the encoding
rules R70 to R74. Then, for every statement with hypotheses, a witness that meets them. -/

namespace Sys2Proof.Tests

open Sys2Proof Sys2Proof.Machine

/-- The next state of an answer. -/
def nextOf (o : Host.Outcome State Fault Refusal) : Option State :=
  match o with
  | .next s => some s
  | .fault _ => none
  | .refused _ => none

/-- An answer with a next state is that next state. -/
theorem answers_of_nextOf {o : Host.Outcome State Fault Refusal} (h : (nextOf o).isSome = true) : ∃ t, o = .next t := by
  cases o with
  | next s => exact ⟨s, rfl⟩
  | fault f => simp [nextOf] at h
  | refused r => simp [nextOf] at h

/-- The start state of 95_test_vectors.md section 2.1. -/
def edgeStart (last : Sample) (rot : Word) (div : Byte) : State :=
  { State.reset with
    lastQuadratureSample := last, rotationCount := rot, fadeDiv := div,
    cwColor := ⟨0, 255, 255⟩, ccwColor := ⟨255, 255, 0⟩ }

/-- The start state of 95_test_vectors.md section 2.2. -/
def pressStart (lbt : Word) (presses : PressCount) (div : Byte) : State :=
  { State.reset with lastButtonEventTime := lbt, buttonPressCount := presses, fadeDiv := div, pressColor := ⟨255, 0, 255⟩ }

/-- The start state of 95_test_vectors.md section 2.3: only the red channel differs from 255. -/
def tickStart (div : Byte) (count : Word) (actual target : Byte) : State :=
  { State.reset with
    fadeDiv := div, tickCount := count, actual := ⟨actual, 255, 255⟩, target := ⟨target, 255, 255⟩,
    ledOut := ⟨actual, 255, 255⟩ }

/-- A state whose fields tell one another apart. -/
def busy : State :=
  { State.reset with
    rotationCount := 7, buttonPressCount := 4, lastButtonEventTime := 1000, actual := ⟨10, 20, 30⟩,
    target := ⟨40, 50, 60⟩, ledOut := ⟨10, 20, 30⟩, pressColor := ⟨1, 2, 3⟩, cwColor := ⟨4, 5, 6⟩, ccwColor := ⟨7, 8, 9⟩,
    fadeDiv := 2, tickCount := 5, rsp := 3 }

/-! ### Well-formedness: each check refuses an ill-formed term -/

theorem test_host_may_not_issue_an_edge : WellFormed .host (.qdecEdge 0b01) = false := by decide
theorem test_host_may_not_issue_a_press : WellFormed .host (.btnEdge 200) = false := by decide
theorem test_host_may_not_issue_a_tick : WellFormed .host .tick = false := by decide
theorem test_encoder_may_not_issue_a_command : WellFormed .encoder .rdRot = false := by decide
theorem test_button_may_not_issue_a_tick : WellFormed .button .tick = false := by decide
theorem test_tick_source_may_not_issue_an_edge : WellFormed .tickSource (.qdecEdge 0b01) = false := by decide
theorem test_issuers_are_well_formed :
    WellFormed .host (.setFade 3) = true ∧ WellFormed .encoder (.qdecEdge 3) = true := by decide
theorem test_lines_out_of_range_are_refused :
    [Line.wrRotDec (-2147483649), .wrRotDec 2147483648, .wrRotHex 4294967296, .ledOut 2, .setFade 256, .setColor 256 0 0,
      .setPressColor 0 256 0, .setCwColor 0 0 256, .setCcwColor 256 0 0, .edge 2 0, .edge 0 2, .press 4294967296].map
        lineInRange = List.replicate 12 false := by decide

/-! ### Decoding: words written out bit by bit, the opcode in bits 35:32 (R70, R72 to R74) -/

theorem test_decode_rd_rot : decode .host 0b000100000000000000000000000000000000#36 = .ok .rdRot := by rfl
theorem test_decode_wr_rot : decode .host 0b001010000000000000000000000000000001#36 = .ok (.wrRot 0x80000001) := by rfl
theorem test_decode_rdclr_press : decode .host 0b001111111111111111111111111111111111#36 = .ok .rdclrPress := by rfl
theorem test_decode_led_out : decode .host 0b010011111111111111111111111111111110#36 = .ok (.ledOut 0) := by rfl
theorem test_decode_set_fade : decode .host 0b010100000000000000000000000100000011#36 = .ok (.setFade 3) := by rfl
theorem test_decode_set_color : decode .host 0b011011111111000000010000001000000011#36 = .ok (.setColor 1 2 3) := by rfl
theorem test_decode_set_press_color :
    decode .host 0b011100000000111111110000000011111111#36 = .ok (.setPressColor 255 0 255) := by rfl
theorem test_decode_set_cw_color :
    decode .host 0b100000000000000000001111111111111111#36 = .ok (.setCwColor 0 255 255) := by rfl
theorem test_decode_set_ccw_color :
    decode .host 0b100100000000111111111111111100000000#36 = .ok (.setCcwColor 255 255 0) := by rfl
theorem test_decode_edge : decode .encoder 0b110011111111111111111111111111111110#36 = .ok (.qdecEdge 0b10) := by rfl
theorem test_decode_press : decode .button 0b110100000000000000000000010001111110#36 = .ok (.btnEdge 1150) := by rfl
theorem test_decode_tick : decode .tickSource 0b111000000000000000000000000000000001#36 = .ok .tick := by rfl
theorem test_decode_reserved : decode .host 0b101000010010001101000101011001111000#36 = .error (.reservedHostOpcode 0xA) := by rfl
theorem test_decode_host_event_is_reserved : decode .host 0xC00000001#36 = .error (.reservedHostOpcode 0xC) := by rfl
theorem test_word_of_37_bits_is_no_word : decodeTableWord 40 0x1100000000 = none := by decide

/-! ### The assembler's text (R78, R79) -/

theorem test_text_set_color : assembleText "set_color 1, 2, 3 ; a color" = some [0x600010203#36] := by decide
theorem test_text_wr_rot : assembleText "wr_rot -1" = some [0x2FFFFFFFF#36] := by decide
theorem test_text_press : assembleText "press @1150" = some [0xD0000047E#36] := by decide
theorem test_text_edge : assembleText "edge 10" = some [0xC00000002#36] := by decide
theorem test_text_cycle : assembleText "cw_cycle" = some [0xC00000001#36, 0xC00000003#36, 0xC00000002#36, 0xC00000000#36] := by
  decide
theorem test_text_out_of_range : assembleText "led_out 2" = none := by decide

/-! ### One step of each operation -/

/-- H2. -/
theorem test_rd_rot : nextOf (exec .rdRot { busy with rotationCount := 0xFFFFFFFF }) =
    some { busy with rotationCount := 0xFFFFFFFF, rsp := 0xFFFFFFFF } := by decide
/-- H3. -/
theorem test_wr_rot : nextOf (exec (.wrRot 0x80000000) { busy with lastQuadratureSample := 0b10 }) =
    some { busy with lastQuadratureSample := 0b10, rotationCount := 0x80000000, rsp := 0 } := by decide
/-- H4. -/
theorem test_rdclr_press : nextOf (exec .rdclrPress busy) = some { busy with rsp := 4, buttonPressCount := 0 } := by decide
/-- H5. -/
theorem test_led_out_disable : nextOf (exec (.ledOut 0) busy) =
    some { busy with ledEnabled := false, ledOut := ⟨255, 255, 255⟩, rsp := 0 } := by decide
/-- H6. -/
theorem test_led_out_enable : nextOf (exec (.ledOut 1) { busy with ledEnabled := false, ledOut := ⟨255, 255, 255⟩ }) =
    some { busy with rsp := 0 } := by decide
/-- H14. -/
theorem test_set_fade : nextOf (exec (.setFade 3) busy) = some { busy with fadeDiv := 3, rsp := 0 } := by decide
/-- H8. -/
theorem test_set_color_immediate : nextOf (exec (.setColor 1 2 3) { busy with fadeDiv := 0 }) =
    some { busy with fadeDiv := 0, target := ⟨1, 2, 3⟩, actual := ⟨1, 2, 3⟩, ledOut := ⟨1, 2, 3⟩, rsp := 0 } := by decide
/-- H9. -/
theorem test_set_color_fading : nextOf (exec (.setColor 1 2 3) busy) = some { busy with target := ⟨1, 2, 3⟩, rsp := 0 } := by
  decide
/-- The example of R147. -/
theorem test_set_press_color : nextOf (exec (.setPressColor 255 0 255) busy) =
    some { busy with pressColor := ⟨255, 0, 255⟩, rsp := 0 } := by decide
/-- H11. -/
theorem test_set_cw_color : nextOf (exec (.setCwColor 0 255 255) { busy with ledEnabled := false }) =
    some { busy with ledEnabled := false, cwColor := ⟨0, 255, 255⟩, rsp := 0 } := by decide
/-- The example of R149. -/
theorem test_set_ccw_color : nextOf (exec (.setCcwColor 255 255 0) busy) =
    some { busy with ccwColor := ⟨255, 255, 0⟩, rsp := 0 } := by decide
/-- Q1. -/
theorem test_edge_cw : nextOf (exec (.qdecEdge 0b01) (edgeStart 0b00 5 0)) =
    some { edgeStart 0b01 6 0 with target := ⟨0, 255, 255⟩, actual := ⟨0, 255, 255⟩, ledOut := ⟨0, 255, 255⟩ } := by decide
/-- Q8. -/
theorem test_edge_ccw : nextOf (exec (.qdecEdge 0b11) (edgeStart 0b10 0 2)) =
    some { edgeStart 0b11 0xFFFFFFFF 2 with target := ⟨255, 255, 0⟩ } := by decide
/-- B2. -/
theorem test_press_discarded : nextOf (exec (.btnEdge 1149) (pressStart 1000 0 0)) = some (pressStart 1000 0 0) := by decide
/-- B5 with B8's divisor. -/
theorem test_press_accepted_across_time_wrap : nextOf (exec (.btnEdge 134) (pressStart 0xFFFFFFF0 0 4)) =
    some { pressStart 134 1 4 with target := ⟨255, 0, 255⟩ } := by decide
/-- T6. -/
theorem test_tick_steps : nextOf (exec .tick (tickStart 1 7 255 253)) = some (tickStart 1 8 254 253) := by decide
/-- T7. -/
theorem test_tick_re_advances : nextOf (exec .tick (tickStart 1 7 100 100)) = some (tickStart 1 8 100 101) := by decide
/-- H13: a reserved host word only answers 0, and the host cannot inject an edge. -/
theorem test_reserved_word : nextOf (step { busy with incoming := [.host 0xC 1, .tick] }) =
    some { busy with rsp := 0, incoming := [.tick] } := by decide
/-- Q9: the first edge after reset, with the placed word's ignored bits set. -/
theorem test_placed_edge_after_reset : nextOf (step (State.reset.withFetchWord 40 0xCFFFFFFFD)) =
    some { State.reset with rotationCount := 1, lastQuadratureSample := 0b01 } := by decide

/-! ### Witnesses: states and operands that meet each statement's hypotheses together -/

theorem witness_ResetLeavesTheTabledValues : State.reset = State.reset ∧ busy.assertReset = busy.assertReset ∧
    busy.assertReset ≠ busy := by decide
theorem witness_DecodeInvertsEncode : WellFormed .encoder (.qdecEdge 0b11) = true ∧ WellFormed .host (.qdecEdge 0b11) = false := by
  decide
theorem witness_DecodeReadsExactlyTheListedBits : decode .host 0x6FF010203#36 = .ok (.setColor 1 2 3) ∧
    opField 0x4FFFFFFFE#36 = opField 0x400000000#36 ∧
    dataField 0x4FFFFFFFE#36 &&& operandMask (opField 0x4FFFFFFFE#36) =
      dataField 0x400000000#36 &&& operandMask (opField 0x4FFFFFFFE#36) := ⟨rfl, by decide, by decide⟩
theorem witness_HostWordsAreCommandsOrReserved :
    (∀ op ∈ [0x0#4, 0xA#4, 0xF#4], op ∈ [0x0#4, 0xA#4, 0xB#4, 0xC#4, 0xD#4, 0xE#4, 0xF#4] ∧
      (busy.withIncoming [.host op 9]).incoming = .host op 9 :: []) ∧
    (∀ op ∈ [0x1#4, 0x9#4], op ∉ [0x0#4, 0xA#4, 0xB#4, 0xC#4, 0xD#4, 0xE#4, 0xF#4]) := by decide
/-- The ends of every range have a word, and the next value beyond has none. -/
theorem witness_AssemblerWritesTheSyntaxTablesWords :
    [assemble (.wrRotDec (-2147483648)), assemble (.wrRotDec 2147483647), assemble (.wrRotHex 4294967295), assemble (.ledOut 1),
      assemble (.setFade 255), assemble (.setColor 255 255 255), assemble (.edge 1 1), assemble (.press 4294967295)] =
    [some [0x280000000#36], some [0x27FFFFFFF#36], some [0x2FFFFFFFF#36], some [0x400000001#36],
      some [0x5000000FF#36], some [0x600FFFFFF#36], some [0xC00000003#36], some [0xDFFFFFFFF#36]] ∧
    [assemble (.wrRotDec (-2147483649)), assemble (.wrRotDec 2147483648), assemble (.wrRotHex 4294967296), assemble (.ledOut 2),
      assemble (.setFade 256), assemble (.setColor 256 0 0), assemble (.edge 2 0), assemble (.press 4294967296)] =
    List.replicate 8 none := by decide
theorem witness_StepPerformsTheDecodedOperation : (busy.withIncoming [.encoder 1, .tick]).incoming = .encoder 1 :: [.tick] ∧
    decode (agentOf (.encoder 1)) (wordOf (.encoder 1)) = .ok (.qdecEdge 1) := ⟨rfl, rfl⟩
theorem witness_IdleStepKeepsTheState : State.reset.incoming = [] := rfl
theorem witness_PlacedWordRunsNext : decodeTableWord 40 0xE00000000 = some .tick := by decide
theorem witness_EachAgentsIssueOrderIsKept : ∃ t, runFor 2 (busy.withIncoming [.tick, .host 1 0, .encoder 2]) = .next t := ⟨_, rfl⟩
theorem witness_NothingRaisesAnExceptionOrHalts :
    (0b00#2 = State.reset.lastQuadratureSample ∧ 0b11#2 = ~~~State.reset.lastQuadratureSample) ∧
    (149#32 - State.reset.lastButtonEventTime).toNat < 150 ∧ State.reset.fadeDiv.toNat = 0 ∧
    ((edgeStart 0b00 0x7FFFFFFF 0).rotationCount.toInt = 2147483647 ∧
      (edgeStart 0b00 0x7FFFFFFF 0).lastQuadratureSample = 0b00#2) ∧
    ((edgeStart 0b01 0x80000000 0).rotationCount.toInt = -2147483648 ∧
      (edgeStart 0b01 0x80000000 0).lastQuadratureSample = 0b01#2) ∧
    ((pressStart 0 0xFFFF 0).buttonPressCount.toNat = 65535 ∧ 150 ≤ (150#32 - (pressStart 0 0xFFFF 0).lastButtonEventTime).toNat) ∧
    (0xA#4 ≤ 0xA#4 ∧ 0xA#4 ≤ 0xF#4) := by decide
theorem witness_RdRotReturnsTheCount : (edgeStart 0 0xFFFFFFFF 0).rotationCount.toInt = -1 ∧
    (edgeStart 0 0xFFFFFFFD 0).rotationCount.toInt = -3 := by decide
theorem witness_RdclrPressReadsAndClears : ∃ t u, exec .rdclrPress (busy.withIncoming [.button 1100]) = .next t ∧
    runFor 1 t = .next u ∧ acceptedPresses 1 t = [] := ⟨_, _, rfl, rfl, by decide⟩
theorem witness_RdRotRepeatsUntilTheCountMayBeWritten : ∃ t u, exec .rdRot (busy.withIncoming [.tick]) = .next t ∧
    (∀ op ∈ t.incoming.take 1, (∀ x, op ≠ .encoder x) ∧ ∀ d, op ≠ .host 0x2#4 d) ∧ runFor 1 t = .next u :=
  ⟨_, _, rfl, by simp [busy], rfl⟩
theorem witness_SetColorSelectsTheTriple : (State.reset.ledEnabled = true ∧ State.reset.fadeDiv = 0#8) ∧
    (busy.ledEnabled = true ∧ busy.fadeDiv ≠ 0#8) ∧ 
    ({ busy with ledEnabled := false } : State).ledEnabled = false := by
  decide
theorem witness_PresetCommandsStoreTheirTripleOnly :
    (1#8 = BitVec.ofNat 8 ((0xFF010203#32).toNat / 65536) ∧ 2#8 = BitVec.ofNat 8 ((0xFF010203#32).toNat / 256) ∧
      3#8 = BitVec.ofNat 8 (0xFF010203#32).toNat) ∧
    (busy.ledEnabled = true ∧ 150 ≤ (1150#32 - busy.lastButtonEventTime).toNat) ∧
    (busy.lastQuadratureSample, 0b01#2) ∈ [(0b00#2, 0b01#2), (0b01#2, 0b11#2), (0b11#2, 0b10#2), (0b10#2, 0b00#2)] ∧
    (0b10#2, busy.lastQuadratureSample) ∈ [(0b00#2, 0b01#2), (0b01#2, 0b11#2), (0b11#2, 0b10#2), (0b10#2, 0b00#2)] := by decide
theorem witness_HostValuesAreStoredAsGiven : busy.ledEnabled = true ∧
    ∀ op ∈ [0x2#4, 0x5#4, 0x6#4, 0x7#4, 0x8#4, 0x9#4],
      (busy.withIncoming [.host op 0xFFFFFFFF]).incoming = .host op 0xFFFFFFFF#32 :: [] := by decide
theorem witness_EveryHostWordWritesTheResponse :
    ((busy.withIncoming [.host 0x3 0]).incoming = .host 0x3#4 0#32 :: [] ∧ ∃ t, step (busy.withIncoming [.host 0x3 0]) = .next t) ∧
    ((busy.withIncoming [.tick]).incoming = .tick :: [] ∧ agentOf .tick ≠ .host ∧ ∃ t, step (busy.withIncoming [.tick]) = .next t) :=
  ⟨⟨rfl, _, rfl⟩, rfl, by decide, _, rfl⟩
theorem witness_OperationsWriteOnlyTheFieldsListed :
    (∃ t, exec (.setFade 9) busy = .next t) ∧ (∀ e, Instr.setFade 9 ≠ .ledOut e) ∧ Instr.setFade 9 ≠ .tick ∧
    (Instr.tick).issuer ≠ .host := ⟨⟨_, rfl⟩, by simp, by simp, by decide⟩
theorem witness_HostReadsNothingButTheTwoCounts :
    busy.rotationCount = (edgeStart 0b11 7 0).rotationCount ∧
    busy.buttonPressCount = ({ edgeStart 0b11 7 0 with buttonPressCount := 4 } : State).buttonPressCount ∧
    (busy.withIncoming [.host 1 0, .host 3 0]).incoming = [(0x1#4, 0#32), (0x3#4, 0#32)].map (fun w => Issue.host w.1 w.2) ∧
    busy ≠ { edgeStart 0b11 7 0 with buttonPressCount := 4 } := by decide
theorem witness_ColorsNeverDependOnTheCounts : ∃ t u v : State,
    t = { busy.withIncoming [.tick] with rotationCount := t.rotationCount, buttonPressCount := t.buttonPressCount, rsp := t.rsp } ∧
    t ≠ busy.withIncoming [.tick] ∧ runFor 1 (busy.withIncoming [.tick]) = .next u ∧ runFor 1 t = .next v :=
  ⟨{ busy.withIncoming [.tick] with rotationCount := 1, rsp := 2 }, _, _, rfl, by decide, rfl, rfl⟩
theorem witness_SelectColorByEnableAndFadeMode : ({ busy with ledEnabled := false } : State).ledEnabled = false ∧
    (State.reset.ledEnabled = true ∧ State.reset.fadeDiv.toNat = 0) ∧ (busy.ledEnabled = true ∧ 0 < busy.fadeDiv.toNat) := by decide
/-- Every pair of samples meets exactly one of the three hypotheses of the transition table. -/
theorem witness_QdecEdgeFollowsTheTransitionTable : ∀ p x : Sample,
    let cw := [(0b00#2, 0b01#2), (0b01#2, 0b11#2), (0b11#2, 0b10#2), (0b10#2, 0b00#2)]
    ((p, x) ∈ cw ∧ (x, p) ∉ cw ∧ x ≠ p ∧ x ≠ ~~~p) ∨ ((p, x) ∉ cw ∧ (x, p) ∈ cw ∧ x ≠ p ∧ x ≠ ~~~p) ∨
    ((p, x) ∉ cw ∧ (x, p) ∉ cw ∧ (x = p ∨ x = ~~~p)) := by decide
theorem witness_GrayCycleCountsFour : busy.lastQuadratureSample = 0b00#2 ∧
    (busy.withIncoming (lineIssues .cwCycle ++ [.tick])).incoming = lineIssues .cwCycle ++ [.tick] ∧
    (busy.withIncoming (lineIssues .ccwCycle)).incoming = lineIssues .ccwCycle ++ [] ∧
    (busy.withIncoming [.encoder 0b01, .encoder 0b11, .encoder 0b10]).incoming =
      [.encoder 0b01#2, .encoder 0b11#2, .encoder 0b10#2] ++ [] ∧
    lineIssues .cwCycle = [.encoder 0b01, .encoder 0b11, .encoder 0b10, .encoder 0b00] := by decide
theorem witness_RetracedPathRestoresTheCount : ∃ s : State, s.incoming = ([0b01#2, 0b10#2, 0b11#2] ++
    ([0b01#2, 0b10#2, 0b11#2].reverse.tail ++ [s.lastQuadratureSample])).map Issue.encoder ++ [] :=
  ⟨busy.withIncoming [.encoder 0b01, .encoder 0b10, .encoder 0b11, .encoder 0b10, .encoder 0b01, .encoder 0b00], rfl⟩
theorem witness_CountParityFollowsTheLines : (∃ t, step (busy.withIncoming [.encoder 0b11]) = .next t) ∧
    (∀ d rest, (busy.withIncoming [.encoder 0b11]).incoming ≠ .host 0x2#4 d :: rest) := ⟨⟨_, rfl⟩, by simp⟩
theorem witness_BtnEdgeIsAcceptedFrom150 :
    ((1149#32).toNat + (4294967296 - busy.lastButtonEventTime.toNat)) % 4294967296 < 150 ∧
    150 ≤ ((1150#32).toNat + (4294967296 - busy.lastButtonEventTime.toNat)) % 4294967296 := by decide
theorem witness_PressesAliasIntoTheWindowAfterTimeWraps : 149 < 150 ∧
    1149#32 = BitVec.ofNat 32 (busy.lastButtonEventTime.toNat + 3 * 2 ^ 32 + 149) := by simp [busy]
theorem witness_AcceptedPressesAreSpacedByTheWindow :
    (∃ t, runFor 3 (busy.withIncoming [.button 1150, .tick, .button 1300]) = .next t) ∧
    acceptedPresses 3 (busy.withIncoming [.button 1150, .tick, .button 1300]) = [1150, 1300] := ⟨⟨_, rfl⟩, by decide⟩
theorem witness_NoAcceptedPressIsLost :
    (∃ t, runFor 3 (busy.withIncoming [.button 1150, .host 3 0, .button 1300]) = .next t) ∧
    drained 3 (busy.withIncoming [.button 1150, .host 3 0, .button 1300]) = 5 := ⟨⟨_, rfl⟩, by decide⟩
theorem witness_PressesAreAcceptedAlikeInEveryOrder :
    IsOrderOf ⟨[(3, 0)], [], [1150], 1⟩ [.button 1150, .host 3 0, .tick] ∧
    IsOrderOf ⟨[(3, 0)], [], [1150], 1⟩ [.host 3 0, .tick, .button 1150] := by decide
theorem witness_EdgesCountAlikeInEveryOrder : (∀ w ∈ ([(1, 0)] : List (Opcode × Word)), w.1 ≠ 0x2#4) ∧
    IsOrderOf ⟨[(1, 0)], [0b01], [], 0⟩ [.encoder 0b01, .host 1 0] ∧ IsOrderOf ⟨[(1, 0)], [0b01], [], 0⟩ [.host 1 0, .encoder 0b01] ∧
    (∃ t, runFor 2 (busy.withIncoming [.encoder 0b01, .host 1 0]) = .next t) ∧
    (∃ u, runFor 2 (busy.withIncoming [.host 1 0, .encoder 0b01]) = .next u) :=
  ⟨by simp, by decide, by decide, answers_of_nextOf (by decide), answers_of_nextOf (by decide)⟩
theorem witness_TickStopsAtItsGates : State.reset.fadeDiv = 0#8 ∧
    ((tickStart 3 4 255 250).fadeDiv ≠ 0#8 ∧ ((tickStart 3 4 255 250).tickCount.toNat + 1) % 4294967296 %
      (tickStart 3 4 255 250).fadeDiv.toNat ≠ 0) ∧
    ({ tickStart 1 7 0 200 with ledEnabled := false } : State).ledEnabled = false ∧
    (∀ c ∈ [Channel.r, .g, .b], (tickStart 1 7 255 255).actual.get c = 255#8 ∧ (tickStart 1 7 255 255).target.get c = 255#8) := by
  decide
theorem witness_FadeStepMovesEveryChannelByOne : (tickStart 3 5 255 250).fadeDiv ≠ 0#8 ∧ (tickStart 3 5 255 250).ledEnabled = true ∧
    (tickStart 3 5 255 250).target.get .r ≠ 255#8 ∧
    ((tickStart 3 5 255 250).tickCount.toNat + 1) % 4294967296 % (tickStart 3 5 255 250).fadeDiv.toNat = 0 := by decide
theorem witness_TickFadesOnlyOnMultiplesOfTheDivisor : ∃ t, exec .tick (tickStart 3 5 255 250) = .next t ∧
    (t.actual ≠ (tickStart 3 5 255 250).actual ∨ t.target ≠ (tickStart 3 5 255 250).target ∨
      t.ledOut ≠ (tickStart 3 5 255 250).ledOut) := ⟨_, rfl, by decide⟩
theorem witness_AllOffGateIsUnobservable : LedOutFollowsActual (tickStart 1 7 255 255) ∧ (tickStart 1 7 255 255).ledEnabled = true ∧
    (∀ c ∈ [Channel.r, .g, .b], (tickStart 1 7 255 255).actual.get c = 255#8 ∧ (tickStart 1 7 255 255).target.get c = 255#8) := by
  decide
theorem witness_TicksBringTheLedsToRest : busy.ledEnabled = true ∧ busy.fadeDiv ≠ 0#8 ∧ LedOutFollowsActual busy ∧
    (busy.withIncoming (List.replicate (510 * busy.fadeDiv.toNat) Issue.tick ++ [])).incoming =
      List.replicate (510 * busy.fadeDiv.toNat) Issue.tick ++ [] := ⟨by decide, by decide, by decide, rfl⟩
theorem witness_TickCounterWrapAlwaysFades : (tickStart 3 0xFFFFFFFF 254 0).tickCount = 0xFFFFFFFF#32 ∧
    (tickStart 3 0xFFFFFFFF 254 0).fadeDiv ≠ 0#8 ∧ (tickStart 3 0xFFFFFFFF 254 0).ledEnabled = true ∧
    (tickStart 3 0xFFFFFFFF 254 0).actual.get .r ≠ 255#8 := by decide
theorem witness_StepKeepsTheSinkShowingActual : LedOutFollowsActual (busy.withIncoming [.tick]) ∧
    ∃ t, step (busy.withIncoming [.tick]) = .next t := ⟨by decide, _, rfl⟩
theorem witness_DisabledLedsStayOffAndHoldTheColors : ∃ s t : State, LedOutFollowsActual s ∧ s.ledEnabled = false ∧
    (∀ op ∈ s.incoming.take 2, enablesLeds op = false) ∧ runFor 2 s = .next t :=
  ⟨{ busy with ledEnabled := false, ledOut := allOff, incoming := [.encoder 0b01, .host 0x4 0] }, _, by decide, rfl, by decide, rfl⟩
theorem witness_DisabledFadingFreezesTheDisplay : ∃ s t : State, s.fadeDiv = 0#8 ∧
    (∀ op ∈ s.incoming.take 2, op = .tick ∨ ∃ o d, op = .host o d ∧ o ∉ [0x4#4, 0x5#4, 0x6#4]) ∧ runFor 2 s = .next t := by
  refine ⟨{ busy with fadeDiv := 0, incoming := [.tick, .host 0x2 9] }, _, rfl, ?_, rfl⟩
  intro op hop
  rcases List.mem_cons.1 hop with rfl | hop
  · exact .inl rfl
  · exact .inr ⟨0x2, 9, by simpa using hop, by decide⟩
theorem witness_InstancesAreIndependent : [State.reset, busy][1]? = some busy ∧ ∃ t, step busy = .next t := ⟨rfl, _, rfl⟩

end Sys2Proof.Tests
end

section
/-! PROOFS. The quadrature decoder (40_quadrature.md). -/

namespace Sys2Proof.Machine

/-- The encoder port performs exactly the meaning of QDEC_EDGE (R7, R74). -/
theorem perform_encoder_eq_exec_qdecEdge (x : Sample) (s : State) :
    perform (.encoder x) s = exec (.qdecEdge x) s :=
  perform_encoder x s

/-- Settles O29: what an edge does to the fields other than the colours is the same law for every class of signature, and
its history is the sample. -/
theorem qdecEdgeAlwaysRecordsTheSample : Obligations.QdecEdgeAlwaysRecordsTheSample := by
  intro x s
  obtain ⟨t, hstep, -, -, -, -, -, hsample, -⟩ := perform_encoder_effect x s
  rw [perform_encoder_eq_exec_qdecEdge] at hstep
  exact ⟨t, hstep, hsample⟩

end Sys2Proof.Machine
end

section
/-! PROOFS. The button (41_button.md). -/

namespace Sys2Proof.Machine

/-- A button's word that carries BTN_EDGE's opcode decodes to BTN_EDGE with the data as its time (R74, R110). -/
theorem decode_button_makeWord (now : Word) : decode .button (makeWord 0xD#4 now) = .ok (.btnEdge now) := by
  simp [decode]

/-- The modular elapsed time in whole numbers (R111). -/
theorem elapsed_toNat (s : State) (now : Word) :
    (s.elapsed now).toNat = (now.toNat + (4294967296 - s.lastButtonEventTime.toNat)) % 4294967296 := by
  rw [State.elapsed, BitVec.toNat_sub, Nat.add_comm]

/-- The debounce window on the elapsed time (R112). -/
theorem bouncing_iff_elapsed (s : State) (now : Word) : s.bouncing now = true ↔ (s.elapsed now).toNat < 150 :=
  bouncing_iff s now

/-- One more press, modulo the counter's 2^16 (R23, R110). -/
theorem pressCount_add_one_eq_ofNat (x : PressCount) : x + 1#16 = BitVec.ofNat 16 (x.toNat + 1) := by
  rw [BitVec.ofNat_add, BitVec.ofNat_toNat, BitVec.setWidth_eq]

/-- A press inside the debounce window is discarded (R113). -/
theorem exec_btnEdge_of_elapsed_lt {s : State} {now : Word} (h : (s.elapsed now).toNat < 150) :
    exec (.btnEdge now) s = .next s :=
  if_pos ((bouncing_iff_elapsed s now).2 h)

/-- A press outside the debounce window is counted, timed and coloured (R110). -/
theorem exec_btnEdge_of_le_elapsed {s : State} {now : Word} (h : 150 ≤ (s.elapsed now).toNat) :
    exec (.btnEdge now) s = .next (State.selectColor
      { s with buttonPressCount := BitVec.ofNat 16 (s.buttonPressCount.toNat + 1), lastButtonEventTime := now }
      s.pressColor) := by
  have hnot : ¬ s.bouncing now = true := by rw [bouncing_iff_elapsed]; omega
  rw [← pressCount_add_one_eq_ofNat]
  exact if_neg hnot

/-- Settles O33: the elapsed time in whole numbers decides between discarding the press and accepting it. -/
theorem btnEdgeIsAcceptedFrom150 : Obligations.BtnEdgeIsAcceptedFrom150 := by
  refine ⟨decode_button_makeWord, fun now s => ?_⟩
  rw [← elapsed_toNat]
  exact ⟨exec_btnEdge_of_elapsed_lt, exec_btnEdge_of_le_elapsed⟩

end Sys2Proof.Machine
end

section
/-! PROOFS. The host commands (43_host.md). -/

namespace Sys2Proof.Machine

/-! ### The word of a host command and its meaning -/

/-- A host word selects its operation by its opcode alone, whatever its data (R74, R150). -/
@[simp] theorem decode_host_makeWord (op : Opcode) (d : Word) : decode .host (makeWord op d) = decodeHost op d := by
  simp [decode]

/-- RD_ROT answers the count and has no other effect (R141). -/
theorem exec_rdRot (s : State) : exec .rdRot s = .next { s with rsp := s.rotationCount } := rfl

/-- WR_ROT stores its operand and answers 0 (R142). -/
theorem exec_wrRot (v : Word) (s : State) : exec (.wrRot v) s = .next { s with rotationCount := v, rsp := 0#32 } := rfl

/-- RDCLR_PRESS answers the count it clears (R143). -/
theorem exec_rdclrPress (s : State) : exec .rdclrPress s =
    .next { s with rsp := s.buttonPressCount.setWidth 32, buttonPressCount := 0#16 } := rfl

/-- SET_FADE stores its operand and answers 0 (R145). -/
theorem exec_setFade (n : Byte) (s : State) : exec (.setFade n) s = .next { s with fadeDiv := n, rsp := 0#32 } := rfl

/-- SET_COLOR is a colour selection that answers 0 (R146). -/
theorem exec_setColor (r g b : Byte) (s : State) :
    exec (.setColor r g b) s = .next { s.selectColor ⟨r, g, b⟩ with rsp := 0#32 } := rfl

/-- SET_PRESS_COLOR stores its triple and answers 0 (R147). -/
theorem exec_setPressColor (r g b : Byte) (s : State) :
    exec (.setPressColor r g b) s = .next { s with pressColor := ⟨r, g, b⟩, rsp := 0#32 } := rfl

/-- SET_CW_COLOR stores its triple and answers 0 (R148). -/
theorem exec_setCwColor (r g b : Byte) (s : State) :
    exec (.setCwColor r g b) s = .next { s with cwColor := ⟨r, g, b⟩, rsp := 0#32 } := rfl

/-- SET_CCW_COLOR stores its triple and answers 0 (R149). -/
theorem exec_setCcwColor (r g b : Byte) (s : State) :
    exec (.setCcwColor r g b) s = .next { s with ccwColor := ⟨r, g, b⟩, rsp := 0#32 } := rfl

/-- A host command at the head of the input steps by its meaning on the rest of the input (R57, R74). -/
theorem step_of_host_command {s t : State} {op : Opcode} {d : Word} {rest : List Issue} {i : Instr}
    (hin : s.incoming = .host op d :: rest) (hdec : decodeHost op d = .ok i)
    (hexec : exec i (s.withIncoming rest) = .next t) : step s = .next t := by
  rw [step_of_incoming_cons hin, perform_host, hdec]
  exact hexec

/-! ### RDCLR_PRESS: a drained count stays 0 until a press is accepted -/

/-- A run that answers passes through an answer of its first step (R204). -/
theorem exists_step_of_runFor_succ {k : Nat} {s u : State} (h : runFor (k + 1) s = .next u) :
    ∃ t, step s = .next t ∧ runFor k t = .next u := by
  rw [runFor_succ] at h
  cases hstep : step s with
  | next t => exact ⟨t, rfl, by simpa only [hstep] using h⟩
  | fault f => simp [hstep] at h
  | refused r => simp [hstep] at h

/-- A run accepts no press exactly when a button event in its first step leaves the count and the rest accepts none. -/
theorem acceptedPresses_succ_eq_nil_iff {k : Nat} {s t : State} (hstep : step s = .next t) :
    acceptedPresses (k + 1) s = [] ↔
      (∀ now rest, s.incoming = .button now :: rest → t.buttonPressCount = s.buttonPressCount) ∧
      acceptedPresses k t = [] := by
  rcases hin : s.incoming with _ | ⟨_ | _ | now | _, rest⟩
  case cons.button =>
    by_cases hcount : t.buttonPressCount = s.buttonPressCount <;> simp [acceptedPresses, hin, hstep, hcount]
  all_goals simp [acceptedPresses, hin, hstep]

/-- Only an accepted press can move the press count away from 0 (R23, R143). -/
theorem step_keeps_buttonPressCount_zero {s t : State} (hstep : step s = .next t) (hzero : s.buttonPressCount = 0#16)
    (hnone : ∀ now rest, s.incoming = .button now :: rest → t.buttonPressCount = s.buttonPressCount) :
    t.buttonPressCount = 0#16 := by
  rcases hin : s.incoming with _ | ⟨op, rest⟩
  · rw [step_of_incoming_nil hin] at hstep
    cases hstep
    exact hzero
  · rw [step_of_incoming_cons hin] at hstep
    cases op with
    | host op d =>
      obtain ⟨-, -, -, -, -, hcount, -⟩ := perform_host_effect hstep
      simpa [hzero] using hcount
    | encoder x =>
      obtain ⟨t', hperform, -, hcount, -⟩ := perform_encoder_effect x (s.withIncoming rest)
      cases hperform.symm.trans hstep
      exact hcount.trans hzero
    | button now => exact (hnone now rest hin).trans hzero
    | tick =>
      obtain ⟨t', hperform, -, -, -, -, hcount, -⟩ := perform_tick_effect (s.withIncoming rest)
      cases hperform.symm.trans hstep
      exact hcount.trans hzero

/-- Along a run that accepts no press a press count of 0 stays 0, by induction on the steps (R143). -/
theorem runFor_keeps_buttonPressCount_zero {k : Nat} {s u : State} (hrun : runFor k s = .next u)
    (hzero : s.buttonPressCount = 0#16) (hnone : acceptedPresses k s = []) : u.buttonPressCount = 0#16 := by
  induction k generalizing s with
  | zero =>
    cases hrun
    exact hzero
  | succ k ih =>
    obtain ⟨t, hstep, hrest⟩ := exists_step_of_runFor_succ hrun
    obtain ⟨hfirst, hlater⟩ := (acceptedPresses_succ_eq_nil_iff hstep).1 hnone
    exact ih hrest (step_keeps_buttonPressCount_zero hstep hzero hfirst) hlater

/-- RDCLR_PRESS on a count of 0 answers 0 (R143). -/
theorem exec_rdclrPress_of_zero {s : State} (h : s.buttonPressCount = 0#16) :
    exec .rdclrPress s = .next { s with rsp := 0#32, buttonPressCount := 0#16 } := by
  rw [exec_rdclrPress, h]
  rfl

/-- Settles O16: the first drain leaves a count of 0, which a run without an accepted press keeps, so the second answers 0. -/
theorem rdclrPressReadsAndClears : Obligations.RdclrPressReadsAndClears := by
  refine ⟨fun d => decode_host_makeWord 0x3#4 d, fun s => ⟨s.buttonPressCount.setWidth 32, ?_, exec_rdclrPress s⟩, ?_⟩
  · exact BitVec.toNat_setWidth_of_le (by decide)
  · intro k s t u hdrain hrun hnone
    have hzero : t.buttonPressCount = 0#16 := by
      cases (exec_rdclrPress s).symm.trans hdrain
      rfl
    exact exec_rdclrPress_of_zero (runFor_keeps_buttonPressCount_zero hrun hzero hnone)

/-! ### RD_ROT and WR_ROT -/

/-- RD_ROT answers the two's-complement pattern of the count's value (R21, R141). -/
theorem exec_rdRot_of_toInt_eq {s : State} {v : Word} (h : s.rotationCount.toInt = v.toInt) :
    exec .rdRot s = .next { s with rsp := v } := by
  rw [exec_rdRot, BitVec.eq_of_toInt_eq h]

/-- Settles O14: the pattern answered is the one word with the count's value. -/
theorem rdRotReturnsTheCount : Obligations.RdRotReturnsTheCount :=
  ⟨fun d => decode_host_makeWord 0x1#4 d, exec_rdRot,
    fun _ h => exec_rdRot_of_toInt_eq (v := 0xFFFFFFFF#32) (h.trans (by decide)),
    fun _ h => exec_rdRot_of_toInt_eq (v := 0xFFFFFFFD#32) (h.trans (by decide))⟩

/-- A WR_ROT word carries the value it stores (R73, R142). -/
theorem decode_wrRot_word (v : Word) : decode .host (makeWord 0x2#4 v) = .ok (.wrRot v) :=
  decode_host_makeWord 0x2#4 v

/-- Settles O15: the operand is the whole data field and is stored as it is. -/
theorem wrRotStoresAnyCount : Obligations.WrRotStoresAnyCount :=
  ⟨decode_wrRot_word, exec_wrRot, decode_wrRot_word 0xFFFFFFFF#32,
    fun s => ⟨_, exec_wrRot 0xFFFFFFFF#32 s, rfl, rfl⟩⟩

/-! ### The values a host word carries -/

/-- Colour selection with LED output enabled stores its triple as the target, fading or not (R100). -/
theorem selectColor_target_of_ledEnabled {s : State} (h : s.ledEnabled = true) (c : Rgb) :
    (s.selectColor c).target = c := by
  obtain ⟨hoff, -⟩ | ⟨-, -, heq⟩ | ⟨-, -, heq⟩ := selectColor_cases s c
  · simp [h] at hoff
  · rw [heq]
  · rw [heq]

/-- Settles O22: each command's step stores the operand's fields, and the fields are the data's bits as whole numbers. -/
theorem hostValuesAreStoredAsGiven : Obligations.HostValuesAreStoredAsGiven := by
  refine fun s d rest => ⟨fun hin => ?_, fun hin => ?_, fun hin hled => ?_, fun hin => ?_, fun hin => ?_, fun hin => ?_⟩
  · exact ⟨_, step_of_host_command hin rfl (exec_wrRot d _), rfl⟩
  · exact ⟨_, step_of_host_command hin rfl (exec_setFade _ _), divisorField_toNat d⟩
  · refine ⟨_, step_of_host_command hin rfl (exec_setColor _ _ _ _), ?_⟩
    have hled' : (s.withIncoming rest).ledEnabled = true := hled
    simpa only [selectColor_target_of_ledEnabled hled'] using rgbFields_toNat d
  · exact ⟨_, step_of_host_command hin rfl (exec_setPressColor _ _ _ _), rgbFields_toNat d⟩
  · exact ⟨_, step_of_host_command hin rfl (exec_setCwColor _ _ _ _), rgbFields_toNat d⟩
  · exact ⟨_, step_of_host_command hin rfl (exec_setCcwColor _ _ _ _), rgbFields_toNat d⟩

end Sys2Proof.Machine
end

section
/-! PROOFS. The encoding of the operations and the placing of a word (30_encoding.md). -/

namespace Sys2Proof.Machine

/-! ### The word of an operation -/

/-- The row that an operation's opcode selects is issued by the operation's own agent (R74). -/
@[simp] theorem issuerOfOpcode_opcodeOf (i : Instr) : issuerOfOpcode (opcodeOf i) = i.issuer := by
  cases i <;> rfl

@[simp] theorem opField_encode (i : Instr) : opField (encode i) = opcodeOf i := opField_makeWord _ _

/-- A host word that decodes names a host command with its opcode and exactly its listed bits (R73, R74). -/
theorem decodeHost_ok {op : Opcode} {d : Word} {i : Instr} (h : decodeHost op d = .ok i) :
    i.issuer = .host ∧ opcodeOf i = op ∧ operandOf i = d &&& operandMask op := by
  unfold decodeHost at h
  split at h <;> cases h <;> refine ⟨rfl, rfl, ?_⟩
  case h_1 | h_3 => exact (BitVec.and_zero).symm
  case h_2 => exact (word_mask d).symm
  case h_4 => exact enableField_mask d
  case h_5 => exact divisorField_mask d
  case h_6 | h_7 | h_8 | h_9 => exact packRgb_fields d

/-- A port's guarded answer is an operation only when its guard holds (R74). -/
theorem guard_of_ite_eq_ok {p : Prop} [Decidable p] {i j : Instr} {e : DecodeError}
    (h : (if p then .ok j else .error e) = Except.ok i) : p ∧ j = i := by
  split at h
  case isTrue hp => exact ⟨hp, Except.ok.inj h⟩
  case isFalse => cases h

/-- A word that decodes names an operation of the agent it came from, with its opcode and exactly its listed bits
(R73 to R75). -/
theorem decode_ok {a : Agent} {w : OpWord} {i : Instr} (h : decode a w = .ok i) :
    i.issuer = a ∧ opcodeOf i = opField w ∧ operandOf i = dataField w &&& operandMask (opField w) := by
  cases a with
  | host => exact decodeHost_ok h
  | encoder =>
    obtain ⟨hop, rfl⟩ := guard_of_ite_eq_ok h
    rw [hop]
    exact ⟨rfl, rfl, sampleField_mask _⟩
  | button =>
    obtain ⟨hop, rfl⟩ := guard_of_ite_eq_ok h
    rw [hop]
    exact ⟨rfl, rfl, (word_mask _).symm⟩
  | tickSource =>
    obtain ⟨hop, rfl⟩ := guard_of_ite_eq_ok h
    rw [hop]
    exact ⟨rfl, rfl, (BitVec.and_zero).symm⟩

/-- Issued by its own agent, an operation's word decodes to it (R73, R74). -/
theorem decode_issuer_encode (i : Instr) : decode i.issuer (encode i) = .ok i := by
  cases i <;> simp [decode, encode, decodeHost, Instr.issuer, opcodeOf, operandOf]

/-- An operation's word decodes only as its own agent's (R74, R77). -/
theorem decode_encode_eq_ok {a : Agent} {i j : Instr} (h : decode a (encode i) = .ok j) : i.issuer = a := by
  obtain ⟨hissuer, hop, -⟩ := decode_ok h
  rw [← issuerOfOpcode_opcodeOf i, ← opField_encode, ← hop, issuerOfOpcode_opcodeOf, hissuer]

/-- Settles O2: an operation's word decodes to it for its issuer, and a word that decodes at all is its issuer's. -/
theorem decodeInvertsEncode : Obligations.DecodeInvertsEncode := by
  intro a i
  simp only [WellFormed, decide_eq_true_eq, decide_eq_false_iff_not]
  refine ⟨?_, fun hne => ?_⟩
  · rintro rfl
    exact decode_issuer_encode i
  · cases hdec : decode a (encode i) with
    | ok j => exact absurd (decode_encode_eq_ok hdec) hne
    | error e => exact ⟨e, rfl⟩

/-! ### Ignored bits -/

@[simp] theorem redField_masked (d : Word) : redField (d &&& 0x00FFFFFF#32) = redField d := by
  rw [← packRgb_fields, redField_packRgb]

@[simp] theorem greenField_masked (d : Word) : greenField (d &&& 0x00FFFFFF#32) = greenField d := by
  rw [← packRgb_fields, greenField_packRgb]

@[simp] theorem blueField_masked (d : Word) : blueField (d &&& 0x00FFFFFF#32) = blueField d := by
  rw [← packRgb_fields, blueField_packRgb]

@[simp] theorem enableField_masked (d : Word) : enableField (d &&& 0x00000001#32) = enableField d := by
  rw [← enableField_mask, enableField_setWidth]

@[simp] theorem divisorField_masked (d : Word) : divisorField (d &&& 0x000000FF#32) = divisorField d := by
  rw [← divisorField_mask, divisorField_setWidth]

@[simp] theorem sampleField_masked (d : Word) : sampleField (d &&& 0x00000003#32) = sampleField d := by
  rw [← sampleField_mask, sampleField_setWidth]

/-- Clearing the ignored bits of a host word does not change what it decodes to (R75). -/
theorem decodeHost_masked (op : Opcode) (d : Word) : decodeHost op (d &&& operandMask op) = decodeHost op d := by
  unfold decodeHost
  split <;> simp [operandMask, word_mask]

/-- Clearing the ignored bits of a word does not change what it decodes to (R75). -/
theorem decode_masked (a : Agent) (w : OpWord) :
    decode a (makeWord (opField w) (dataField w &&& operandMask (opField w))) = decode a w := by
  cases a with
  | host => exact (decode_host_makeWord _ _).trans (decodeHost_masked _ _)
  | encoder => by_cases h : opField w = 0xC#4 <;> simp [decode, h, operandMask]
  | button => by_cases h : opField w = 0xD#4 <;> simp [decode, h, operandMask, word_mask]
  | tickSource => simp [decode]

/-- Settles O3: a decoded operation carries exactly the listed bits, and a word decodes as it does with its ignored bits
cleared. -/
theorem decodeReadsExactlyTheListedBits : Obligations.DecodeReadsExactlyTheListedBits := by
  refine ⟨fun a w i hdec => ?_, fun a v w hop hdata => ?_⟩
  · obtain ⟨hissuer, hop, hdata⟩ := decode_ok hdec
    exact ⟨decide_eq_true hissuer, by rw [encode, hop, hdata]⟩
  · rw [← decode_masked a v, hdata, hop, decode_masked]

/-! ### Host words and port words -/

/-- The opcodes the host port reserves (R76). -/
def reservedOpcodes : List Opcode := [0x0#4, 0xA#4, 0xB#4, 0xC#4, 0xD#4, 0xE#4, 0xF#4]

/-- A reserved opcode is rejected by its name, whatever the data (R76). -/
theorem decodeHost_of_mem_reserved {op : Opcode} (h : op ∈ reservedOpcodes) (d : Word) :
    decodeHost op d = .error (.reservedHostOpcode op) := by
  simp only [reservedOpcodes, List.mem_cons, List.not_mem_nil, or_false] at h
  rcases h with rfl | rfl | rfl | rfl | rfl | rfl | rfl <;> rfl

/-- Every opcode that is not reserved names a host command (R74). -/
theorem exists_decodeHost_of_not_mem_reserved {op : Opcode} (h : op ∉ reservedOpcodes) (d : Word) :
    ∃ i, decodeHost op d = .ok i := by
  have hop : op ∈ [0x1#4, 0x2#4, 0x3#4, 0x4#4, 0x5#4, 0x6#4, 0x7#4, 0x8#4, 0x9#4] := by
    revert op
    decide
  simp only [List.mem_cons, List.not_mem_nil, or_false] at hop
  rcases hop with rfl | rfl | rfl | rfl | rfl | rfl | rfl | rfl | rfl <;> exact ⟨_, rfl⟩

/-- A reserved host word at the head of the input only answers 0 (R76). -/
theorem step_of_reserved {s : State} {op : Opcode} {d : Word} {rest : List Issue} (h : op ∈ reservedOpcodes)
    (hin : s.incoming = .host op d :: rest) : step s = .next { s with incoming := rest, rsp := 0#32 } := by
  rw [step_of_incoming_cons hin, perform_host, decodeHost_of_mem_reserved h]
  rfl

/-- Settles O4: an opcode is reserved, and its step only answers 0, or it names one of the host commands. -/
theorem hostWordsAreCommandsOrReserved : Obligations.HostWordsAreCommandsOrReserved := by
  refine fun op d => ⟨fun hres s rest hin => step_of_reserved hres hin, fun hres => ?_⟩
  obtain ⟨i, hdec⟩ := exists_decodeHost_of_not_mem_reserved hres d
  exact ⟨i, (decode_host_makeWord op d).trans hdec, decide_eq_true (decodeHost_ok hdec).1⟩

/-- Settles O5: each port's word carries its own opcode, and its operand field reads back what the port carries. -/
theorem portEventsDecodeToTheirOperations : Obligations.PortEventsDecodeToTheirOperations :=
  ⟨fun x => decode_issuer_encode (.qdecEdge x), decode_button_makeWord, decode_issuer_encode .tick⟩

/-- Settles O6: the words are fixed numbers, so the decoder computes each answer. -/
theorem writtenOutWordsDecode : Obligations.WrittenOutWordsDecode := by
  unfold Obligations.WrittenOutWordsDecode
  decide

/-! ### Placing a word -/

/-- A table word placed at its issuer's port decodes there as the word itself does: the port drops only ignored bits
(R7, R75; log 16). -/
theorem decode_issueOfWord (w : OpWord) :
    decode (agentOf (issueOfWord w)) (wordOf (issueOfWord w)) = decode (issuerOfOpcode (opField w)) w := by
  by_cases henc : opField w = 0xC#4
  · simp [issueOfWord, issuerOfOpcode, henc, agentOf, wordOf, decode]
  by_cases hbtn : opField w = 0xD#4
  · simp [issueOfWord, issuerOfOpcode, hbtn, agentOf, wordOf, decode]
  by_cases htick : opField w = 0xE#4
  · simp [issueOfWord, issuerOfOpcode, htick, agentOf, wordOf, decode]
  have hhost : issuerOfOpcode (opField w) = .host := by simp [issuerOfOpcode]
  simp [issueOfWord, hhost, agentOf, wordOf, decode]

/-- An operation at a port whose word decodes performs that operation's meaning (R57, R74). -/
theorem perform_of_decode {op : Issue} {i : Instr} (h : decode (agentOf op) (wordOf op) = .ok i) (s : State) :
    perform op s = exec i s := by
  rw [perform, h]

/-- A number that decodes as a table word decodes as a word of its issuer's (R70, R74). -/
theorem decode_of_decodeTableWord {nbits w : Nat} {i : Instr} (h : decodeTableWord nbits w = some i) :
    decode (issuerOfOpcode (opField (BitVec.ofNat 36 (w % 2 ^ nbits)))) (BitVec.ofNat 36 (w % 2 ^ nbits)) = .ok i := by
  simp only [decodeTableWord] at h
  split at h
  · split at h
    · simp_all
    · cases h
  · cases h

/-- Settles O10: the placed word is at the head of the input, and its port forms a word that decodes alike. -/
theorem placedWordRunsNext : Obligations.PlacedWordRunsNext := by
  intro s nbits w i hdec
  rw [step_of_incoming_cons (State.withFetchWord_incoming s nbits w),
    perform_of_decode ((decode_issueOfWord _).trans (decode_of_decodeTableWord hdec))]
  rfl

/-- Settles O8: the step performs the next operation on the rest, and performing it is the meaning it decodes to. -/
theorem stepPerformsTheDecodedOperation : Obligations.StepPerformsTheDecodedOperation := by
  intro s op rest i hin hdec
  rw [step_of_incoming_cons hin, perform_of_decode hdec]

/-- Settles O9: with no operation to take from the input, there is nothing a step performs. -/
theorem idleStepKeepsTheState : Obligations.IdleStepKeepsTheState :=
  fun _ => step_of_incoming_nil

end Sys2Proof.Machine
end

section
/-! PROOFS. The words of the assembler's lines (30_encoding.md section 5). -/

namespace Sys2Proof.Machine

/-- The word of an operation from its opcode and operand as whole numbers (R70). -/
theorem encode_eq_ofNat (i : Instr) :
    encode i = BitVec.ofNat 36 ((opcodeOf i).toNat * 2 ^ 32 + (operandOf i).toNat) := by
  have h : (encode i).toNat = (opcodeOf i).toNat * 2 ^ 32 + (operandOf i).toNat := makeWord_toNat _ _
  rw [← h, BitVec.ofNat_toNat, BitVec.setWidth_eq]

/-- A line that stands for one operation has that operation's word exactly when its operands are in range (R78; log 14). -/
theorem assemble_of_single {l : Line} {i : Instr} {n : Nat} {p : Prop} [Decidable p] (hinstrs : lineInstrs l = [i])
    (hrange : lineInRange l = true ↔ p) (hword : p → (opcodeOf i).toNat * 2 ^ 32 + (operandOf i).toNat = n) :
    assemble l = if p then some [BitVec.ofNat 36 n] else none := by
  by_cases hp : p
  · rw [assemble, if_pos (hrange.2 hp), if_pos hp, hinstrs, ← hword hp, ← encode_eq_ofNat]
    rfl
  · rw [assemble, if_neg (mt hrange.1 hp), if_neg hp]

/-- Three brightness operands are in range when each is below 256 (R78). -/
theorem isByte_triple_iff (r g b : Nat) :
    (isByte r && isByte g && isByte b) = true ↔ r < 256 ∧ g < 256 ∧ b < 256 := by
  simp [isByte, and_assoc]

/-- A colour line's word when its opcode is `op` (R72, R78). -/
theorem packRgb_ofNat_word (op : Nat) {r g b : Nat} (h : r < 256 ∧ g < 256 ∧ b < 256) :
    op * 2 ^ 32 + (packRgb (BitVec.ofNat 8 r) (BitVec.ofNat 8 g) (BitVec.ofNat 8 b)).toNat =
      op * 2 ^ 32 + r * 65536 + g * 256 + b := by
  obtain ⟨hr, hg, hb⟩ := h
  rw [packRgb_toNat, BitVec.toNat_ofNat, BitVec.toNat_ofNat, BitVec.toNat_ofNat, Nat.mod_eq_of_lt hr, Nat.mod_eq_of_lt hg,
    Nat.mod_eq_of_lt hb]
  omega

/-- The operand of an `edge` line: line 1 is the upper digit (R78). -/
theorem sampleOfLines_operand {x y : Nat} (h : x < 2 ∧ y < 2) : ((sampleOfLines x y).setWidth 32).toNat = 2 * x + y := by
  simp [sampleOfLines]
  omega

/-- Settles O7: a line with operands is one operation whose opcode and operand are summed as numbers; the words of the other
lines are fixed, so the encoder computes them. -/
theorem assemblerWritesTheSyntaxTablesWords : Obligations.AssemblerWritesTheSyntaxTablesWords := by
  refine ⟨by decide, fun v => ?_, fun v => ?_, by decide, fun e => ?_, fun n => ?_, fun r g b => ?_, fun r g b => ?_,
    fun r g b => ?_, fun r g b => ?_, fun x y => ?_, fun now => ?_, by decide, by decide, by decide, by decide, by decide,
    by decide, by decide, fun k => ?_⟩
  case refine_1 =>
    exact assemble_of_single rfl (by simp [lineInRange]) fun _ => congrArg (2 * 2 ^ 32 + ·) (BitVec.toNat_ofInt v)
  case refine_2 =>
    exact assemble_of_single rfl (by simp [lineInRange]) fun h => congrArg (2 * 2 ^ 32 + ·) (Nat.mod_eq_of_lt h)
  case refine_3 => exact assemble_of_single rfl (by simp [lineInRange]) fun h => by simp [opcodeOf, operandOf]; omega
  case refine_4 => exact assemble_of_single rfl (by simp [lineInRange, isByte]) fun h => by simp [opcodeOf, operandOf]; omega
  case refine_5 => exact assemble_of_single rfl (isByte_triple_iff r g b) (packRgb_ofNat_word 6)
  case refine_6 => exact assemble_of_single rfl (isByte_triple_iff r g b) (packRgb_ofNat_word 7)
  case refine_7 => exact assemble_of_single rfl (isByte_triple_iff r g b) (packRgb_ofNat_word 8)
  case refine_8 => exact assemble_of_single rfl (isByte_triple_iff r g b) (packRgb_ofNat_word 9)
  case refine_9 =>
    refine assemble_of_single rfl (by simp [lineInRange]) fun h => ?_
    rw [Nat.add_assoc, ← sampleOfLines_operand h]
    rfl
  case refine_10 =>
    exact assemble_of_single rfl (by simp [lineInRange]) fun h => congrArg (13 * 2 ^ 32 + ·) (Nat.mod_eq_of_lt h)
  case refine_11 =>
    have htick : encode .tick = 0xE00000000#36 := by decide
    simp [assemble, lineInRange, lineInstrs, htick]

end Sys2Proof.Machine
end

section
/-! PROOFS. Steps and runs: every operation answers, takes nothing from the input by itself, and never depends on what waits
there (20_memory.md section 2, 60_exceptions.md). -/

namespace Sys2Proof.Machine

/-! ### No operation depends on the input -/

@[simp] theorem selectColor_withIncoming (s : State) (c : Rgb) (ops : List Issue) :
    (s.withIncoming ops).selectColor c = (s.selectColor c).withIncoming ops := by
  cases hled : s.ledEnabled
  · simp [State.selectColor, hled]
  · by_cases hdiv : s.fadeDiv = 0#8 <;> simp [State.selectColor, State.fadeEnabled, hled, hdiv] <;> rfl

@[simp] theorem countTurn_withIncoming (s : State) (turn : Turn) (ops : List Issue) :
    (s.withIncoming ops).countTurn turn = (s.countTurn turn).withIncoming ops := by
  cases turn with
  | cw => exact selectColor_withIncoming { s with rotationCount := s.rotationCount + 1#32 } s.cwColor ops
  | ccw => exact selectColor_withIncoming { s with rotationCount := s.rotationCount - 1#32 } s.ccwColor ops
  | ignored => rfl

@[simp] theorem gatedFade_withIncoming (s : State) (ops : List Issue) :
    (s.withIncoming ops).gatedFade = s.gatedFade.withIncoming ops := by
  unfold State.gatedFade
  exact (apply_ite (fun t : State => t.withIncoming ops) _ (fadeStep s) s).symm

/-- LED_OUT that disables (R144). -/
theorem exec_ledOut_off (s : State) :
    exec (.ledOut 0#1) s = .next { s with ledEnabled := false, ledOut := allOff, rsp := 0#32 } := rfl

/-- LED_OUT that enables (R144). -/
theorem exec_ledOut_on (s : State) :
    exec (.ledOut 1#1) s = .next { s with ledEnabled := true, ledOut := s.actual, rsp := 0#32 } := rfl

/-- The enable operand has two values (R73). -/
theorem enable_cases (e : BitVec 1) : e = 0#1 ∨ e = 1#1 := by
  revert e
  decide

/-- Every operation answers (R170). -/
theorem exec_total (i : Instr) (s : State) : ∃ t, exec i s = .next t := by
  cases i with
  | ledOut e => obtain rfl | rfl := enable_cases e <;> exact ⟨_, rfl⟩
  | btnEdge now => by_cases hb : s.bouncing now = true <;> simp [exec, execBtnEdge, hb]
  | tick => by_cases hf : s.fadeEnabled = true <;> simp [exec, execTick, hf]
  | _ => exact ⟨_, rfl⟩

/-- An operation's answer does not depend on what waits in the input, and leaves the input as it is (R57). -/
theorem exec_withIncoming {i : Instr} {s t : State} (h : exec i s = .next t) (ops : List Issue) :
    exec i (s.withIncoming ops) = .next (t.withIncoming ops) := by
  cases i with
  | ledOut e => obtain rfl | rfl := enable_cases e <;> cases h <;> rfl
  | setColor r g b =>
    cases h
    simp only [exec, execSetColor, selectColor_withIncoming]
    rfl
  | qdecEdge x =>
    cases h
    simp only [exec, execQdecEdge, countTurn_withIncoming, State.withIncoming_lastQuadratureSample]
    rfl
  | btnEdge now =>
    by_cases hb : s.bouncing now = true
    · cases (if_pos hb).symm.trans h
      exact if_pos hb
    · cases (if_neg hb).symm.trans h
      exact (if_neg hb).trans (congrArg _ (selectColor_withIncoming
        { s with buttonPressCount := s.buttonPressCount + 1#16, lastButtonEventTime := now } s.pressColor ops))
  | tick =>
    by_cases hf : s.fadeEnabled = true
    · cases (if_pos hf).symm.trans h
      exact (if_pos hf).trans (congrArg _ (gatedFade_withIncoming s.countTick ops))
    · cases (if_neg hf).symm.trans h
      exact if_neg hf
  | _ =>
    cases h
    rfl

/-- An operation leaves the input as it is (R57). -/
theorem exec_incoming {i : Instr} {s t : State} (h : exec i s = .next t) : t.incoming = s.incoming := by
  have hsame : exec i s = .next (t.withIncoming s.incoming) := exec_withIncoming h s.incoming
  have heq : t = t.withIncoming s.incoming := Host.Outcome.next.inj (h.symm.trans hsame)
  simpa using congrArg State.incoming heq

/-- What stands at a port performs an operation's meaning, or only writes the response, or does nothing (R74, R76). -/
theorem perform_cases (op : Issue) :
    (∃ i, decode (agentOf op) (wordOf op) = .ok i ∧ perform op = exec i) ∨
    (∃ o d, op = .host o d ∧ o ∈ reservedOpcodes ∧ ∀ s, perform op s = .next (s.respond 0#32)) := by
  cases hdec : decode (agentOf op) (wordOf op) with
  | ok i => exact .inl ⟨i, rfl, funext (perform_of_decode hdec)⟩
  | error e =>
    obtain ⟨o, d, rfl, rfl⟩ := decode_error_only_reserved hdec
    refine .inr ⟨o, d, rfl, ?_, fun s => by rw [perform, hdec]; rfl⟩
    by_contra hres
    obtain ⟨i, hi⟩ := exists_decodeHost_of_not_mem_reserved hres d
    cases hdec.symm.trans ((decode_host_makeWord o d).trans hi)

/-- What a port's operation does, does not depend on what waits in the input, and leaves the input as it is (R57). -/
theorem perform_withIncoming {op : Issue} {s t : State} (h : perform op s = .next t) (ops : List Issue) :
    perform op (s.withIncoming ops) = .next (t.withIncoming ops) := by
  obtain ⟨i, -, hexec⟩ | ⟨o, d, -, -, hrespond⟩ := perform_cases op
  · rw [hexec] at h ⊢
    exact exec_withIncoming h ops
  · cases (hrespond s).symm.trans h
    exact hrespond _

/-- Every port's operation answers (R170). -/
theorem perform_total (op : Issue) (s : State) : ∃ t, perform op s = .next t := by
  obtain ⟨i, -, hexec⟩ | ⟨o, d, -, -, hrespond⟩ := perform_cases op
  · rw [hexec]
    exact exec_total i s
  · exact ⟨_, hrespond s⟩

/-- A port's operation leaves what waits behind it as it is (R57). -/
theorem perform_incoming {op : Issue} {s t : State} (h : perform op s = .next t) : t.incoming = s.incoming := by
  obtain ⟨i, -, hexec⟩ | ⟨o, d, -, -, hrespond⟩ := perform_cases op
  · exact exec_incoming ((congrFun hexec s).symm.trans h)
  · cases (hrespond s).symm.trans h
    rfl

/-! ### What a step can do -/

/-- A step keeps the state when nothing is issued; otherwise it takes the next operation from the input and performs it
(R57, R181). -/
theorem step_cases {s t : State} (h : step s = .next t) :
    (s.incoming = [] ∧ t = s) ∨
    ∃ op, s.incoming = op :: t.incoming ∧ perform op (s.withIncoming t.incoming) = .next t := by
  cases hin : s.incoming with
  | nil =>
    rw [step_of_incoming_nil hin] at h
    cases h
    exact .inl ⟨rfl, rfl⟩
  | cons op rest =>
    rw [step_of_incoming_cons hin] at h
    obtain rfl : t.incoming = rest := perform_incoming h
    exact .inr ⟨op, rfl, h⟩

/-- A step takes one operation from the input (R57). -/
theorem step_incoming {s t : State} (h : step s = .next t) : t.incoming = s.incoming.drop 1 := by
  obtain ⟨hin, rfl⟩ | ⟨op, hin, -⟩ := step_cases h
  · rw [hin, List.drop_nil]
  · rw [hin, List.drop_one, List.tail_cons]

/-- Every step answers (R170). -/
theorem step_total (s : State) : ∃ t, step s = .next t := by
  cases hin : s.incoming with
  | nil => exact ⟨s, step_of_incoming_nil hin⟩
  | cons op rest =>
    obtain ⟨t, ht⟩ := perform_total op (s.withIncoming rest)
    exact ⟨t, (step_of_incoming_cons hin).trans ht⟩

/-! ### What a run can do -/

/-- Every run answers (R170). -/
theorem runFor_total (k : Nat) (s : State) : ∃ t, runFor k s = .next t := by
  induction k generalizing s with
  | zero => exact ⟨s, rfl⟩
  | succ k ih =>
    obtain ⟨t, hstep⟩ := step_total s
    rw [runFor_succ_of_step hstep]
    exact ih t

/-- A run takes the operations in the order of the input (R57). -/
theorem runFor_incoming {k : Nat} {s t : State} (h : runFor k s = .next t) : t.incoming = s.incoming.drop k := by
  induction k generalizing s with
  | zero =>
    cases h
    rfl
  | succ k ih =>
    obtain ⟨u, hstep, hrest⟩ := exists_step_of_runFor_succ h
    rw [ih hrest, step_incoming hstep, List.drop_drop, Nat.add_comm]

/-- Induction over the operations a run performs: a relation that holds of no operation and is passed on by each performed
operation holds of every run. -/
theorem runFor_induction {R : List Issue → State → State → Prop} (hnone : ∀ s, R [] s s)
    (hperform : ∀ {op ops} {s t u : State},
      perform op (s.withIncoming t.incoming) = .next t → R ops t u → R (op :: ops) s u)
    {k : Nat} {s u : State} (h : runFor k s = .next u) : R (s.incoming.take k) s u := by
  induction k generalizing s with
  | zero =>
    cases h
    exact hnone _
  | succ k ih =>
    obtain ⟨t, hstep, hrest⟩ := exists_step_of_runFor_succ h
    obtain ⟨hin, rfl⟩ | ⟨op, hin, hop⟩ := step_cases hstep
    · have ih := ih hrest
      rw [hin, List.take_nil] at ih ⊢
      exact ih
    · rw [hin, List.take_succ_cons]
      exact hperform hop (ih hrest)

/-- A property that every operation of a kind keeps, and that does not speak of the input, is kept by every run of such
operations. -/
theorem runFor_keeps {P : State → Prop} {Q : Issue → Prop} (hinput : ∀ s ops, P s → P (s.withIncoming ops))
    (hperform : ∀ {op : Issue} {s t : State}, Q op → P s → perform op s = .next t → P t)
    {k : Nat} {s t : State} (h : runFor k s = .next t) (hops : ∀ op ∈ s.incoming.take k, Q op) (hs : P s) : P t := by
  refine runFor_induction (R := fun ops s t => (∀ op ∈ ops, Q op) → P s → P t) (fun _ _ hs => hs) ?_ h hops hs
  intro op ops s t u hop ih hops hs
  obtain ⟨hhead, htail⟩ := List.forall_mem_cons.1 hops
  exact ih htail (hperform hhead (hinput s _ hs) hop)

/-! ### The order of the operations -/

/-- Settles O11: by induction on the earlier operations, each of which answers alike whatever stands behind it. -/
theorem earlierOperationsNeverSeeLaterOnes : Obligations.EarlierOperationsNeverSeeLaterOnes := by
  intro s earlier later
  induction earlier generalizing s with
  | nil => exact ⟨s, rfl, fun k => by simp⟩
  | cons op earlier ih =>
    obtain ⟨t, ht⟩ := perform_total op s
    have hstep (ops : List Issue) : step (s.withIncoming (op :: ops)) = .next (t.withIncoming ops) :=
      (step_of_incoming_cons rfl).trans (perform_withIncoming ht ops)
    obtain ⟨u, hu, hlater⟩ := ih t
    refine ⟨u, (runFor_succ_of_step (hstep earlier)).trans hu, fun k => ?_⟩
    rw [List.length_cons, Nat.add_right_comm, List.cons_append, runFor_succ_of_step (hstep (earlier ++ later)), hlater]

@[simp] theorem hostPart_append (a b : List Issue) : hostPart (a ++ b) = hostPart a ++ hostPart b := by
  induction a with
  | nil => rfl
  | cons op a ih => cases op <;> simp [hostPart, ih]

@[simp] theorem encoderPart_append (a b : List Issue) : encoderPart (a ++ b) = encoderPart a ++ encoderPart b := by
  induction a with
  | nil => rfl
  | cons op a ih => cases op <;> simp [encoderPart, ih]

@[simp] theorem buttonPart_append (a b : List Issue) : buttonPart (a ++ b) = buttonPart a ++ buttonPart b := by
  induction a with
  | nil => rfl
  | cons op a ih => cases op <;> simp [buttonPart, ih]

@[simp] theorem tickPart_append (a b : List Issue) : tickPart (a ++ b) = tickPart a + tickPart b := by
  induction a with
  | nil => simp [tickPart]
  | cons op a ih => cases op <;> simp [tickPart, ih, Nat.add_right_comm]

/-- Settles O12: a run leaves the input without the operations it took, and each agent's part of the two is its part of the
whole. -/
theorem eachAgentsIssueOrderIsKept : Obligations.EachAgentsIssueOrderIsKept := by
  intro k s t hrun
  rw [runFor_incoming hrun, ← hostPart_append, ← encoderPart_append, ← buttonPart_append, ← tickPart_append,
    List.take_append_drop]
  exact ⟨rfl, rfl, rfl, rfl, rfl⟩

/-! ### Several blocks -/

/-- Settles O51: a step at a position replaces the block there, if there is one, by its own next state. -/
theorem instancesAreIndependent : Obligations.InstancesAreIndependent := by
  intro k blocks
  cases hk : blocks[k]? with
  | none =>
    refine ⟨blocks, by simp [stepInstanceAt, hk], rfl, fun _ _ => rfl, ?_⟩
    rintro s t ⟨⟩
  | some s =>
    obtain ⟨t, hstep⟩ := step_total s
    refine ⟨blocks.set k t, by simp [stepInstanceAt, hk, hstep], List.length_set,
      fun j hj => List.getElem?_set_ne (Ne.symm hj), ?_⟩
    rintro s' t' ⟨⟩ hstep'
    cases hstep.symm.trans hstep'
    have hlt : k < blocks.length := (List.getElem?_eq_some_iff.1 hk).1
    exact List.getElem?_set_self hlt

end Sys2Proof.Machine
end

section
/-! PROOFS. What the colours may depend on, what the host may learn, and what each operation may write (10_state.md sections 7
and 8). -/

namespace Sys2Proof.Machine

/-! ### The colours never depend on the counts -/

/-- The state with another rotation count, press count and response: the fields that nothing about the colours reads. -/
def State.withCounts (s : State) (rot : Word) (press : PressCount) (rsp : Word) : State :=
  { s with rotationCount := rot, buttonPressCount := press, rsp := rsp }

@[simp] theorem State.withCounts_lastQuadratureSample (s : State) (rot : Word) (press : PressCount) (rsp : Word) :
    (s.withCounts rot press rsp).lastQuadratureSample = s.lastQuadratureSample := rfl

theorem selectColor_withCounts (s : State) (c : Rgb) (rot : Word) (press : PressCount) (rsp : Word) :
    (s.withCounts rot press rsp).selectColor c = (s.selectColor c).withCounts rot press rsp := by
  unfold State.selectColor
  rw [apply_ite (fun t : State => t.withCounts rot press rsp), apply_ite (fun t : State => t.withCounts rot press rsp)]
  rfl

/-- A counted edge selects the same colour whatever the counts (R101). -/
theorem countTurn_withCounts (s : State) (turn : Turn) (rot : Word) (press : PressCount) (rsp : Word) :
    ∃ rot', (s.withCounts rot press rsp).countTurn turn = (s.countTurn turn).withCounts rot' press rsp := by
  cases turn with
  | cw => exact ⟨rot + 1#32, selectColor_withCounts { s with rotationCount := s.rotationCount + 1#32 } s.cwColor _ _ _⟩
  | ccw => exact ⟨rot - 1#32, selectColor_withCounts { s with rotationCount := s.rotationCount - 1#32 } s.ccwColor _ _ _⟩
  | ignored => exact ⟨rot, rfl⟩

theorem gatedFade_withCounts (s : State) (rot : Word) (press : PressCount) (rsp : Word) :
    (s.withCounts rot press rsp).gatedFade = s.gatedFade.withCounts rot press rsp := by
  unfold State.gatedFade
  exact (apply_ite (fun t : State => t.withCounts rot press rsp) _ (fadeStep s) s).symm

/-- Other counts and another response change an operation's answer in those three fields only (section 7). -/
theorem exec_withCounts {i : Instr} {s t : State} (h : exec i s = .next t) (rot : Word) (press : PressCount) (rsp : Word) :
    ∃ rot' press' rsp', exec i (s.withCounts rot press rsp) = .next (t.withCounts rot' press' rsp') := by
  cases i with
  | rdRot => cases h; exact ⟨rot, press, rot, rfl⟩
  | wrRot v => cases h; exact ⟨v, press, 0#32, rfl⟩
  | rdclrPress => cases h; exact ⟨rot, 0#16, press.setWidth 32, rfl⟩
  | ledOut e => obtain rfl | rfl := enable_cases e <;> cases h <;> exact ⟨rot, press, 0#32, rfl⟩
  | setFade _ | setPressColor _ _ _ | setCwColor _ _ _ | setCcwColor _ _ _ => cases h; exact ⟨rot, press, 0#32, rfl⟩
  | setColor r g b =>
    cases h
    exact ⟨rot, press, 0#32, by rw [exec_setColor, selectColor_withCounts]; rfl⟩
  | qdecEdge x =>
    cases h
    obtain ⟨rot', hturn⟩ := countTurn_withCounts s (classify (signature x s.lastQuadratureSample)) rot press rsp
    refine ⟨rot', press, rsp, ?_⟩
    simp only [exec, execQdecEdge, State.withCounts_lastQuadratureSample, hturn]
    rfl
  | btnEdge now =>
    by_cases hb : s.bouncing now = true
    · cases (if_pos hb).symm.trans h
      exact ⟨rot, press, rsp, if_pos hb⟩
    · cases (if_neg hb).symm.trans h
      exact ⟨rot, press + 1#16, rsp, (if_neg hb).trans (congrArg _ (selectColor_withCounts
        { s with buttonPressCount := s.buttonPressCount + 1#16, lastButtonEventTime := now } s.pressColor _ _ _))⟩
  | tick =>
    by_cases hf : s.fadeEnabled = true
    · cases (if_pos hf).symm.trans h
      exact ⟨rot, press, rsp, (if_pos hf).trans (congrArg _ (gatedFade_withCounts s.countTick _ _ _))⟩
    · cases (if_neg hf).symm.trans h
      exact ⟨rot, press, rsp, if_neg hf⟩

theorem perform_withCounts {op : Issue} {s t : State} (h : perform op s = .next t) (rot : Word) (press : PressCount)
    (rsp : Word) : ∃ rot' press' rsp', perform op (s.withCounts rot press rsp) = .next (t.withCounts rot' press' rsp') := by
  obtain ⟨i, -, hexec⟩ | ⟨o, d, -, -, hrespond⟩ := perform_cases op
  · rw [hexec] at h ⊢
    exact exec_withCounts h rot press rsp
  · cases (hrespond s).symm.trans h
    exact ⟨rot, press, 0#32, hrespond _⟩

theorem step_withCounts {s t : State} (h : step s = .next t) (rot : Word) (press : PressCount) (rsp : Word) :
    ∃ rot' press' rsp', step (s.withCounts rot press rsp) = .next (t.withCounts rot' press' rsp') := by
  obtain ⟨hin, rfl⟩ | ⟨op, hin, hop⟩ := step_cases h
  · exact ⟨rot, press, rsp, step_of_incoming_nil hin⟩
  · obtain ⟨rot', press', rsp', hop'⟩ := perform_withCounts hop rot press rsp
    exact ⟨rot', press', rsp', (step_of_incoming_cons (s := s.withCounts rot press rsp) hin).trans hop'⟩

/-- Through any run, other counts and another response change those three fields only (section 7). -/
theorem runFor_withCounts {k : Nat} {s t : State} (h : runFor k s = .next t) (rot : Word) (press : PressCount) (rsp : Word) :
    ∃ rot' press' rsp', runFor k (s.withCounts rot press rsp) = .next (t.withCounts rot' press' rsp') := by
  induction k generalizing s rot press rsp with
  | zero =>
    cases h
    exact ⟨rot, press, rsp, rfl⟩
  | succ k ih =>
    obtain ⟨u, hstep, hrest⟩ := exists_step_of_runFor_succ h
    obtain ⟨rot', press', rsp', hstep'⟩ := step_withCounts hstep rot press rsp
    rw [runFor_succ_of_step hstep']
    exact ih hrest rot' press' rsp'

/-- Settles O26: the second block is the first with other counts and another response, and every step of a run keeps that. -/
theorem colorsNeverDependOnTheCounts : Obligations.ColorsNeverDependOnTheCounts := by
  intro k s t u v hst hu hv
  obtain ⟨rot, press, rsp, hv'⟩ := runFor_withCounts hu t.rotationCount t.buttonPressCount t.rsp
  have ht : t = s.withCounts t.rotationCount t.buttonPressCount t.rsp := hst
  rw [← ht] at hv'
  cases hv.symm.trans hv'
  rfl

/-! ### The responses -/

theorem responses_of_idle {k : Nat} {s t : State} (hin : s.incoming = []) (hstep : step s = .next t) :
    responses (k + 1) s = responses k t := by
  simp [responses, hin, hstep]

theorem responses_of_host {k : Nat} {s t : State} {op : Opcode} {d : Word} {rest : List Issue}
    (hin : s.incoming = .host op d :: rest) (hstep : step s = .next t) :
    responses (k + 1) s = t.rsp :: responses k t := by
  simp [responses, hin, hstep]

theorem responses_of_event {k : Nat} {s t : State} {op : Issue} {rest : List Issue} (hin : s.incoming = op :: rest)
    (hagent : agentOf op ≠ .host) (hstep : step s = .next t) : responses (k + 1) s = responses k t := by
  cases op with
  | host o d => exact absurd rfl hagent
  | _ => simp [responses, hin, hstep]

theorem hostPart_cons_of_event {op : Issue} (hagent : agentOf op ≠ .host) (rest : List Issue) :
    hostPart (op :: rest) = hostPart rest := by
  cases op with
  | host o d => exact absurd rfl hagent
  | _ => rfl

/-- An event leaves the response as it is (R140). -/
theorem perform_event_rsp {op : Issue} {s t : State} (hagent : agentOf op ≠ .host) (h : perform op s = .next t) :
    t.rsp = s.rsp := by
  cases op with
  | host o d => exact absurd rfl hagent
  | encoder x =>
    obtain ⟨u, hu, hrsp, -⟩ := perform_encoder_effect x s
    cases hu.symm.trans h
    exact hrsp
  | button now =>
    obtain ⟨u, hu, hrsp, -⟩ := perform_button_effect now s
    cases hu.symm.trans h
    exact hrsp
  | tick =>
    obtain ⟨u, hu, hrsp, -⟩ := perform_tick_effect s
    cases hu.symm.trans h
    exact hrsp

/-- A run returns one response for each host word it performs (R140, R204). -/
theorem responses_length (k : Nat) (s : State) : (responses k s).length = (hostPart (s.incoming.take k)).length := by
  induction k generalizing s with
  | zero => rfl
  | succ k ih =>
    obtain ⟨t, hstep⟩ := step_total s
    obtain ⟨hin, rfl⟩ | ⟨op, hin, -⟩ := step_cases hstep
    · simp [responses_of_idle hin hstep, ih, hin]
    · rw [hin, List.take_succ_cons]
      by_cases hagent : agentOf op = .host
      · cases op with
        | host o d => rw [responses_of_host hin hstep, hostPart, List.length_cons, List.length_cons, ih]
        | _ => cases hagent
      · rw [responses_of_event hin hagent hstep, hostPart_cons_of_event hagent, ih]

/-- Settles O23: the effect of a host word and of an event on the response, and one response for each host word of a run. -/
theorem everyHostWordWritesTheResponse : Obligations.EveryHostWordWritesTheResponse := by
  refine ⟨fun s t op d rest hin hstep => ?_, fun s t op rest hin hagent hstep => ?_, responses_length⟩
  · rw [step_of_incoming_cons hin] at hstep
    obtain ⟨-, -, -, -, -, -, hrsp⟩ := perform_host_effect hstep
    exact hrsp
  · rw [step_of_incoming_cons hin] at hstep
    exact (perform_event_rsp hagent hstep).trans (State.withIncoming_rsp s rest)

/-- Settles O25: by induction on the host words, each of which answers from the two counts and leaves them alike. -/
theorem hostReadsNothingButTheTwoCounts : Obligations.HostReadsNothingButTheTwoCounts := by
  intro words
  induction words with
  | nil => exact fun s t _ _ _ _ => rfl
  | cons w words ih =>
    intro s t hrot hpress hin hsame
    rw [List.map_cons] at hin
    rw [hin] at hsame
    obtain ⟨s', hs⟩ := step_total s
    obtain ⟨t', ht⟩ := step_total t
    obtain ⟨-, -, -, hsin, hsrot, hspress, hsrsp⟩ := perform_host_effect ((step_of_incoming_cons hin).symm.trans hs)
    obtain ⟨-, -, -, htin, htrot, htpress, htrsp⟩ := perform_host_effect ((step_of_incoming_cons hsame).symm.trans ht)
    simp only [State.withIncoming_incoming, State.withIncoming_rotationCount, State.withIncoming_buttonPressCount]
      at hsin hsrot hspress hsrsp htin htrot htpress htrsp
    rw [← hrot] at htrot htrsp
    rw [← hpress] at htpress htrsp
    rw [List.length_cons, responses_of_host hin hs, responses_of_host hsame ht, hsrsp, htrsp,
      ih s' t' (hsrot.trans htrot.symm) (hspress.trans htpress.symm) hsin (htin.trans hsin.symm)]

end Sys2Proof.Machine
end

section
/-! PROOFS. Counting: what runs do to the rotation count and the history (40_quadrature.md). -/

namespace Sys2Proof.Machine

/-! ### One edge -/

/-- The sample operand as a whole number (R73). -/
theorem sampleField_eq_ofNat (d : Word) : sampleField d = BitVec.ofNat 2 d.toNat := by
  simp [sampleField, BitVec.extractLsb']

/-- An encoder's word with QDEC_EDGE's opcode decodes to QDEC_EDGE of its two lowest bits (R73, R101). -/
theorem decode_encoder_makeWord (d : Word) :
    decode .encoder (makeWord 0xC#4 d) = .ok (.qdecEdge (BitVec.ofNat 2 d.toNat)) := by
  simp [decode, sampleField_eq_ofNat]

/-- The pairs of a sample and the next one along the clockwise order 00, 01, 11, 10 (R102; the spec's D3 and D4). -/
def clockwise : List (Sample × Sample) := [(0b00#2, 0b01#2), (0b01#2, 0b11#2), (0b11#2, 0b10#2), (0b10#2, 0b00#2)]

theorem classify_eq_cw : ∀ p x : Sample, (p, x) ∈ clockwise → classify (signature x p) = .cw := by decide

theorem classify_eq_ccw : ∀ p x : Sample, (x, p) ∈ clockwise → classify (signature x p) = .ccw := by decide

theorem classify_eq_ignored : ∀ p x : Sample, x = p ∨ x = ~~~p → classify (signature x p) = .ignored := by decide

/-- A clockwise edge counts up and selects the clockwise colour (R101). -/
theorem exec_qdecEdge_cw {x : Sample} {s : State} (h : (s.lastQuadratureSample, x) ∈ clockwise) :
    exec (.qdecEdge x) s = .next
      { State.selectColor { s with rotationCount := s.rotationCount + 1#32 } s.cwColor with lastQuadratureSample := x } := by
  rw [exec, execQdecEdge, classify_eq_cw _ _ h]
  rfl

/-- A counterclockwise edge counts down and selects the counterclockwise colour (R101). -/
theorem exec_qdecEdge_ccw {x : Sample} {s : State} (h : (x, s.lastQuadratureSample) ∈ clockwise) :
    exec (.qdecEdge x) s = .next
      { State.selectColor { s with rotationCount := s.rotationCount - 1#32 } s.ccwColor with lastQuadratureSample := x } := by
  rw [exec, execQdecEdge, classify_eq_ccw _ _ h]
  rfl

/-- An edge on neither line or on both only records its sample (R102, R103). -/
theorem exec_qdecEdge_ignored {x : Sample} {s : State} (h : x = s.lastQuadratureSample ∨ x = ~~~s.lastQuadratureSample) :
    exec (.qdecEdge x) s = .next { s with lastQuadratureSample := x } := by
  rw [exec, execQdecEdge, classify_eq_ignored _ _ h]
  rfl

/-- Settles O28: the three classes of a pair of samples decide what the edge counts and selects. -/
theorem qdecEdgeFollowsTheTransitionTable : Obligations.QdecEdgeFollowsTheTransitionTable :=
  fun _ d _ => ⟨decode_encoder_makeWord d, exec_qdecEdge_cw, exec_qdecEdge_ccw, exec_qdecEdge_ignored⟩

/-! ### The count along a path of samples -/

/-- What an edge adds to the rotation count (R101). -/
def countChange (previous current : Sample) : Word :=
  match classify (signature current previous) with
  | .cw => 1#32
  | .ccw => -1#32
  | .ignored => 0#32

/-- What a path of samples adds to the rotation count, from the history before it. -/
def pathChange : Sample → List Sample → Word
  | _, [] => 0#32
  | previous, current :: path => countChange previous current + pathChange current path

/-- The second state has counted a path of samples from the first, with the last of them as its history. -/
structure CountsPath (path : List Sample) (s t : State) : Prop where
  count : t.rotationCount = s.rotationCount + pathChange s.lastQuadratureSample path
  history : t.lastQuadratureSample = path.getLastD s.lastQuadratureSample

/-- The encoder's edges change the count by `countChange` and become the history (R101, R103). -/
theorem perform_encoder_count {x : Sample} {s t : State} (h : perform (.encoder x) s = .next t) :
    t.rotationCount = s.rotationCount + countChange s.lastQuadratureSample x ∧ t.lastQuadratureSample = x := by
  obtain ⟨u, hu, -, -, -, -, -, hlast, hrot⟩ := perform_encoder_effect x s
  cases hu.symm.trans h
  refine ⟨hrot.trans ?_, hlast⟩
  unfold countChange
  cases classify (signature x s.lastQuadratureSample) with
  | cw => rfl
  | ccw => exact BitVec.sub_eq_add_neg _ _
  | ignored => exact (BitVec.add_zero _).symm

/-- An operation that is neither an edge nor WR_ROT leaves the count and the history (10_state.md section 7). -/
theorem perform_keeps_count {op : Issue} {s t : State} (hedge : ∀ x, op ≠ .encoder x) (hwrite : ∀ d, op ≠ .host 0x2#4 d)
    (h : perform op s = .next t) :
    t.rotationCount = s.rotationCount ∧ t.lastQuadratureSample = s.lastQuadratureSample := by
  cases op with
  | host o d =>
    obtain ⟨hlast, -, -, -, hrot, -⟩ := perform_host_effect h
    have ho : o ≠ 0x2#4 := fun ho => hwrite d (congrArg (Issue.host · d) ho)
    exact ⟨hrot.trans (if_neg ho), hlast⟩
  | encoder x => exact absurd rfl (hedge x)
  | button now =>
    obtain ⟨u, hu, -, hrot, -, -, hlast, -⟩ := perform_button_effect now s
    cases hu.symm.trans h
    exact ⟨hrot, hlast⟩
  | tick =>
    obtain ⟨u, hu, -, hrot, -, hlast, -⟩ := perform_tick_effect s
    cases hu.symm.trans h
    exact ⟨hrot, hlast⟩

theorem encoderPart_cons_of_not_encoder {op : Issue} (h : ∀ x, op ≠ .encoder x) (rest : List Issue) :
    encoderPart (op :: rest) = encoderPart rest := by
  cases op with
  | encoder x => exact absurd rfl (h x)
  | _ => rfl

/-- Without WR_ROT a run counts exactly the path of its samples, whatever else it performs, and ends with the last of them
as the history. -/
theorem runFor_count {k : Nat} {s t : State} (h : runFor k s = .next t)
    (hwrite : ∀ op ∈ s.incoming.take k, ∀ d, op ≠ .host 0x2#4 d) :
    CountsPath (encoderPart (s.incoming.take k)) s t := by
  refine runFor_induction (R := fun ops s t => (∀ op ∈ ops, ∀ d, op ≠ .host 0x2#4 d) → CountsPath (encoderPart ops) s t)
    (fun s _ => ⟨(BitVec.add_zero _).symm, rfl⟩) ?_ h hwrite
  intro op ops s t u hop ih hwrite
  obtain ⟨hhead, htail⟩ := List.forall_mem_cons.1 hwrite
  obtain ⟨hrot, hlast⟩ := ih htail
  by_cases hedge : ∃ x, op = .encoder x
  · obtain ⟨x, rfl⟩ := hedge
    obtain ⟨hrot', hlast'⟩ := perform_encoder_count hop
    rw [hlast'] at hrot hlast
    refine ⟨?_, hlast.trans List.getLastD_cons.symm⟩
    rw [hrot, hrot', encoderPart, pathChange, BitVec.add_assoc]
    rfl
  · have hedge' : ∀ x, op ≠ .encoder x := fun x hx => hedge ⟨x, hx⟩
    obtain ⟨hrot', hlast'⟩ := perform_keeps_count hedge' hhead hop
    rw [hrot', hlast'] at hrot
    rw [hlast'] at hlast
    rw [encoderPart_cons_of_not_encoder hedge']
    exact ⟨hrot, hlast⟩

@[simp] theorem encoderPart_map_encoder (path : List Sample) : encoderPart (path.map .encoder) = path := by
  induction path with
  | nil => rfl
  | cons x path ih => rw [List.map_cons, encoderPart, ih]

/-- A run over a path of edges counts the path and takes it from the input. -/
theorem runFor_path {s : State} {path : List Sample} {rest : List Issue}
    (hin : s.incoming = path.map Issue.encoder ++ rest) :
    ∃ t, runFor path.length s = .next t ∧ CountsPath path s t ∧ t.incoming = rest := by
  obtain ⟨t, hrun⟩ := runFor_total path.length s
  have htake : s.incoming.take path.length = path.map Issue.encoder := by
    rw [hin]
    exact List.take_left' (List.length_map _)
  have hdrop : s.incoming.drop path.length = rest := by
    rw [hin]
    exact List.drop_left' (List.length_map _)
  have hcount := runFor_count hrun (by simp [htake])
  rw [htake, encoderPart_map_encoder] at hcount
  exact ⟨t, hrun, hcount, (runFor_incoming hrun).trans hdrop⟩

/-- Settles O30: the cycles are paths of four and three samples, which count 4, -4 and 3 from 00. -/
theorem grayCycleCountsFour : Obligations.GrayCycleCountsFour := by
  refine fun s rest hlast => ⟨fun hin => ?_, fun hin => ?_, fun hin => ?_⟩
  · obtain ⟨t, hrun, ⟨hrot, hhistory⟩, hrest⟩ := runFor_path (path := [0b01#2, 0b11#2, 0b10#2, 0b00#2]) hin
    have hfour : pathChange 0b00#2 [0b01#2, 0b11#2, 0b10#2, 0b00#2] = 4#32 := by decide
    exact ⟨t, hrun, by rw [hrot, hlast, hfour], hhistory, hrest⟩
  · obtain ⟨t, hrun, ⟨hrot, hhistory⟩, hrest⟩ := runFor_path (path := [0b10#2, 0b11#2, 0b01#2, 0b00#2]) hin
    have hfour : pathChange 0b00#2 [0b10#2, 0b11#2, 0b01#2, 0b00#2] = -4#32 := by decide
    exact ⟨t, hrun, by rw [hrot, hlast, hfour, BitVec.sub_eq_add_neg], hhistory, hrest⟩
  · obtain ⟨t, hrun, ⟨hrot, -⟩, hrest⟩ := runFor_path (path := [0b01#2, 0b11#2, 0b10#2]) hin
    have hthree : pathChange 0b00#2 [0b01#2, 0b11#2, 0b10#2] = 3#32 := by decide
    exact ⟨t, hrun, by rw [hrot, hlast, hthree], hrest⟩

/-! ### A path taken back -/

/-- An edge taken back takes back its count (R102). -/
theorem countChange_add_back : ∀ p x : Sample, countChange p x + countChange x p = 0#32 := by decide

/-- A sample repeated counts nothing (R102). -/
theorem countChange_self : ∀ p : Sample, countChange p p = 0#32 := by decide

theorem pathChange_append (p : Sample) (a b : List Sample) :
    pathChange p (a ++ b) = pathChange p a + pathChange (a.getLastD p) b := by
  induction a generalizing p with
  | nil => exact (BitVec.zero_add _).symm
  | cons x a ih => rw [List.cons_append, pathChange, ih, pathChange, List.getLastD_cons, BitVec.add_assoc]

/-- A path followed by its way back to where it started counts nothing, by induction on the path: the way back of the rest
ends at the first sample, and the last edge takes back the first. -/
theorem pathChange_retraced (p : Sample) (path : List Sample) :
    pathChange p (path ++ (path.reverse.tail ++ [p])) = 0#32 := by
  induction path generalizing p with
  | nil => simp [pathChange, countChange_self]
  | cons x path ih =>
    by_cases hpath : path = []
    · simp [hpath, pathChange, countChange_add_back]
    · have htail : (x :: path).reverse.tail = path.reverse.tail ++ [x] := by
        rw [List.reverse_cons, List.tail_append_of_ne_nil (by simpa using hpath)]
      have hback : (path ++ (path.reverse.tail ++ [x])).getLastD x = x := by
        rw [← List.append_assoc, List.getLastD_concat]
      calc pathChange p (x :: path ++ ((x :: path).reverse.tail ++ [p]))
          = countChange p x + pathChange x ((path ++ (path.reverse.tail ++ [x])) ++ [p]) := by
            rw [htail, List.cons_append, pathChange, List.append_assoc path]
        _ = countChange p x + (0#32 + countChange x p) := by
            rw [pathChange_append, ih, hback, pathChange, pathChange, BitVec.add_zero]
        _ = 0#32 := by rw [BitVec.zero_add, countChange_add_back]

/-- Settles O31: the samples of the run are a path and its way back, which count nothing. -/
theorem retracedPathRestoresTheCount : Obligations.RetracedPathRestoresTheCount := by
  intro s path rest hin
  obtain ⟨t, hrun, ⟨hrot, hlast⟩, hrest⟩ := runFor_path hin
  refine ⟨t, hrun, ?_, ?_, hrest⟩
  · rw [hrot, pathChange_retraced, BitVec.add_zero]
  · rw [hlast, ← List.append_assoc, List.getLastD_concat]

/-! ### Parity -/

/-- An edge changes the parity of the lines as it changes the parity of the count (R102). -/
theorem countChange_parity : ∀ p x : Sample,
    ((countChange p x).toNat + x.toNat % 2 + x.toNat / 2) % 2 = (p.toNat % 2 + p.toNat / 2) % 2 := by decide

/-- Settles O32: an edge moves the parity of count and lines together, and every other operation moves neither. -/
theorem countParityFollowsTheLines : Obligations.CountParityFollowsTheLines := by
  intro s t hstep hwrite
  obtain ⟨-, rfl⟩ | ⟨op, hin, hop⟩ := step_cases hstep
  · rfl
  · by_cases hedge : ∃ x, op = .encoder x
    · obtain ⟨x, rfl⟩ := hedge
      obtain ⟨hrot, hlast⟩ := perform_encoder_count hop
      have hparity := countChange_parity s.lastQuadratureSample x
      rw [hrot, hlast, BitVec.toNat_add]
      simp only [State.withIncoming_rotationCount, State.withIncoming_lastQuadratureSample]
      omega
    · have hhost (d : Word) : op ≠ .host 0x2#4 d := fun hd => hwrite d t.incoming (hd ▸ hin)
      obtain ⟨hrot, hlast⟩ := perform_keeps_count (fun x hx => hedge ⟨x, hx⟩) hhost hop
      rw [hrot, hlast]
      rfl

/-! ### The order between agents and the count -/

theorem mem_hostPart {o : Opcode} {d : Word} {ops : List Issue} (h : .host o d ∈ ops) : (o, d) ∈ hostPart ops := by
  obtain ⟨a, b, rfl⟩ := List.append_of_mem h
  simp [hostPart]

/-- A run of all that is issued, without WR_ROT, counts the encoder's own samples whatever their order among the rest. -/
theorem runFor_order_count {p : Pending} {order : List Issue} {s t : State} (hwrite : ∀ w ∈ p.host, w.1 ≠ 0x2#4)
    (horder : IsOrderOf p order) (h : runFor order.length (s.withIncoming order) = .next t) :
    CountsPath p.encoder s t := by
  obtain ⟨hhost, hencoder, -, -⟩ := horder
  have hcount := runFor_count h
  rw [State.withIncoming_incoming, List.take_length, hencoder] at hcount
  obtain ⟨hrot, hlast⟩ := hcount fun op hop d hd => by
    subst hd
    exact hwrite _ (hhost ▸ mem_hostPart hop) rfl
  exact ⟨hrot, hlast⟩

/-- Settles O38: in either order the run counts the encoder's own samples. -/
theorem edgesCountAlikeInEveryOrder : Obligations.EdgesCountAlikeInEveryOrder := by
  intro p s t u order other hwrite horder hother ht hu
  obtain ⟨hrot, hlast⟩ := runFor_order_count hwrite horder ht
  obtain ⟨hrot', hlast'⟩ := runFor_order_count hwrite hother hu
  exact ⟨hrot.trans hrot'.symm, hlast.trans hlast'.symm⟩

/-- Settles O17: operations that are neither an edge nor WR_ROT keep the count that the first RD_ROT answered. -/
theorem rdRotRepeatsUntilTheCountMayBeWritten : Obligations.RdRotRepeatsUntilTheCountMayBeWritten := by
  intro k s t u hread hops hrun
  have hkept : u.rotationCount = t.rotationCount := by
    refine runFor_keeps (P := fun v => v.rotationCount = t.rotationCount) (fun _ _ h => h) ?_ hrun hops rfl
    intro op v w hop hv hperform
    obtain ⟨hedge, hwrite⟩ := hop
    exact (perform_keeps_count hedge hwrite hperform).1.trans hv
  cases (exec_rdRot s).symm.trans hread
  rw [exec_rdRot, hkept]

end Sys2Proof.Machine
end

section
/-! PROOFS. Presses: which are accepted, that they are spaced, and that none is lost (41_button.md). -/

namespace Sys2Proof.Machine

/-! ### One operation -/

/-- Settles O34: whole turns of the 32-bit time vanish in the elapsed time. -/
theorem pressesAliasIntoTheWindowAfterTimeWraps : Obligations.PressesAliasIntoTheWindowAfterTimeWraps := by
  intro s turns d now hd hnow
  apply exec_btnEdge_of_elapsed_lt
  have hlast := s.lastButtonEventTime.isLt
  rw [elapsed_toNat, hnow, BitVec.toNat_ofNat]
  omega

/-- A step that performs no button event leaves the recorded time and, unless it performs a host word, the press count
(R23, R24). -/
theorem step_keeps_presses {s t : State} (hstep : step s = .next t)
    (hbutton : ∀ now, s.incoming ≠ .button now :: t.incoming) :
    t.lastButtonEventTime = s.lastButtonEventTime ∧
      ((∀ o d, s.incoming ≠ .host o d :: t.incoming) → t.buttonPressCount = s.buttonPressCount) := by
  obtain ⟨-, rfl⟩ | ⟨op, hin, hop⟩ := step_cases hstep
  · exact ⟨rfl, fun _ => rfl⟩
  · cases op with
    | host o d =>
      obtain ⟨-, htime, -⟩ := perform_host_effect hop
      exact ⟨htime, fun hhost => absurd hin (hhost o d)⟩
    | encoder x =>
      obtain ⟨u, hu, -, hcount, htime, -⟩ := perform_encoder_effect x (s.withIncoming t.incoming)
      cases hu.symm.trans hop
      exact ⟨htime, fun _ => hcount⟩
    | button now => exact absurd hin (hbutton now)
    | tick =>
      obtain ⟨u, hu, -, -, -, -, hcount, htime, -⟩ := perform_tick_effect (s.withIncoming t.incoming)
      cases hu.symm.trans hop
      exact ⟨htime, fun _ => hcount⟩

/-- A button event is discarded inside the window and counted, with its time, outside (R110, R113). -/
theorem step_button_cases {now : Word} {s t : State} {rest : List Issue} (hstep : step s = .next t)
    (hin : s.incoming = .button now :: rest) :
    ((now - s.lastButtonEventTime).toNat < 150 ∧ t.buttonPressCount = s.buttonPressCount ∧
      t.lastButtonEventTime = s.lastButtonEventTime) ∨
    (150 ≤ (now - s.lastButtonEventTime).toNat ∧ t.buttonPressCount = s.buttonPressCount + 1#16 ∧
      t.lastButtonEventTime = now) := by
  rw [step_of_incoming_cons hin] at hstep
  obtain ⟨u, hu, -, -, -, -, -, hcases⟩ := perform_button_effect now (s.withIncoming rest)
  cases hu.symm.trans hstep
  obtain ⟨hlt, rfl⟩ | haccepted := hcases
  · exact .inl ⟨hlt, rfl, rfl⟩
  · exact .inr haccepted

/-- A host word hands out the press count it clears and leaves the count otherwise (R143). -/
theorem step_host_balance {s t : State} {o : Opcode} {d : Word} {rest : List Issue} (hstep : step s = .next t)
    (hin : s.incoming = .host o d :: rest) :
    (if o = 0x3#4 then t.rsp.toNat else 0) + t.buttonPressCount.toNat = s.buttonPressCount.toNat := by
  rw [step_of_incoming_cons hin] at hstep
  obtain ⟨-, -, -, -, -, hcount, hrsp⟩ := perform_host_effect hstep
  rw [hcount, hrsp]
  by_cases ho : o = 0x3#4
  · subst ho
    rw [if_pos rfl, if_neg (by decide), if_pos rfl, if_pos rfl]
    exact BitVec.toNat_setWidth_of_le (by decide)
  · rw [if_neg ho, if_neg ho, Nat.zero_add]
    rfl

/-! ### The first operation of a run -/

/-- A run accepts nothing with its first step when that performs no button event. -/
theorem acceptedPresses_of_not_button {k : Nat} {s t : State} (hstep : step s = .next t)
    (h : ∀ now, s.incoming ≠ .button now :: t.incoming) : acceptedPresses (k + 1) s = acceptedPresses k t := by
  obtain ⟨hin, -⟩ | ⟨op, hin, -⟩ := step_cases hstep
  · simp [acceptedPresses, hin, hstep]
  · cases op with
    | button now => exact absurd hin (h now)
    | _ => simp [acceptedPresses, hin, hstep]

/-- With a button event first, a run accepts it when the event moves the press count. -/
theorem acceptedPresses_of_button {k : Nat} {s t : State} {now : Word} {rest : List Issue} (hstep : step s = .next t)
    (hin : s.incoming = .button now :: rest) : acceptedPresses (k + 1) s =
      if t.buttonPressCount ≠ s.buttonPressCount then now :: acceptedPresses k t else acceptedPresses k t := by
  simp [acceptedPresses, hin, hstep]

/-- A run drains nothing with its first step when that performs no host word. -/
theorem drained_of_not_host {k : Nat} {s t : State} (hstep : step s = .next t)
    (h : ∀ o d, s.incoming ≠ .host o d :: t.incoming) : drained (k + 1) s = drained k t := by
  obtain ⟨hin, -⟩ | ⟨op, hin, -⟩ := step_cases hstep
  · simp [drained, hin, hstep]
  · cases op with
    | host o d => exact absurd hin (h o d)
    | _ => simp [drained, hin, hstep]

/-- With a host word first, a run drains the word's response if it is RDCLR_PRESS. -/
theorem drained_of_host {k : Nat} {s t : State} {o : Opcode} {d : Word} {rest : List Issue} (hstep : step s = .next t)
    (hin : s.incoming = .host o d :: rest) :
    drained (k + 1) s = (if o = 0x3#4 then t.rsp.toNat else 0) + drained k t := by
  simp [drained, hin, hstep]

/-- The button's part of what a run performs begins with its first step only when that performs a button event. -/
theorem buttonPart_take_of_not_button {k : Nat} {s t : State} (hstep : step s = .next t)
    (h : ∀ now, s.incoming ≠ .button now :: t.incoming) :
    buttonPart (s.incoming.take (k + 1)) = buttonPart (t.incoming.take k) := by
  obtain ⟨hin, rfl⟩ | ⟨op, hin, -⟩ := step_cases hstep
  · rw [hin, List.take_nil, List.take_nil]
  · rw [hin, List.take_succ_cons]
    cases op with
    | button now => exact absurd hin (h now)
    | _ => rfl

/-! ### The presses a run accepts are those of the debounce filter -/

/-- The debounce filter on a list of times: a time less than 150 units after the last one kept is dropped (R111 to R113). -/
def acceptedTimes : Word → List Word → List Word
  | _, [] => []
  | last, now :: rest =>
    if (now - last).toNat < 150 then acceptedTimes last rest else now :: acceptedTimes now rest

/-- The times the filter keeps are spaced by the window. -/
theorem debounced_acceptedTimes (last : Word) (times : List Word) : debounced last (acceptedTimes last times) = true := by
  induction times generalizing last with
  | nil => rfl
  | cons now rest ih =>
    rw [acceptedTimes]
    split
    case isTrue => exact ih last
    case isFalse h => rw [debounced, ih, Bool.and_true, decide_eq_true_eq]; omega

/-- Over any run the presses accepted are those the filter keeps of the button's own times, whatever else is performed, and
the last of them is recorded. -/
theorem acceptedPresses_eq_acceptedTimes {k : Nat} {s t : State} (h : runFor k s = .next t) :
    acceptedPresses k s = acceptedTimes s.lastButtonEventTime (buttonPart (s.incoming.take k)) ∧
      t.lastButtonEventTime = (acceptedPresses k s).getLastD s.lastButtonEventTime := by
  induction k generalizing s with
  | zero =>
    cases h
    exact ⟨rfl, rfl⟩
  | succ k ih =>
    obtain ⟨u, hstep, hrest⟩ := exists_step_of_runFor_succ h
    obtain ⟨hpresses, htime⟩ := ih hrest
    by_cases hbutton : ∃ now, s.incoming = .button now :: u.incoming
    · obtain ⟨now, hin⟩ := hbutton
      rw [acceptedPresses_of_button hstep hin, hin, List.take_succ_cons, buttonPart, acceptedTimes]
      obtain ⟨hlt, hcount, hlast⟩ | ⟨hle, hcount, hnow⟩ := step_button_cases hstep hin
      · rw [if_neg (not_not.2 hcount), if_pos hlt, ← hlast]
        exact ⟨hpresses, htime⟩
      · rw [hnow] at hpresses htime
        rw [if_pos (hcount ▸ pressCount_add_one_ne _), if_neg (not_lt.2 hle), ← hpresses, List.getLastD_cons]
        exact ⟨rfl, htime⟩
    · have hbutton' := not_exists.1 hbutton
      rw [acceptedPresses_of_not_button hstep hbutton', buttonPart_take_of_not_button hstep hbutton',
        ← (step_keeps_presses hstep hbutton').1]
      exact ⟨hpresses, htime⟩

/-- Settles O35: the accepted presses are the times the debounce filter keeps, and those are spaced. -/
theorem acceptedPressesAreSpacedByTheWindow : Obligations.AcceptedPressesAreSpacedByTheWindow := by
  intro k s t hrun
  obtain ⟨hpresses, htime⟩ := acceptedPresses_eq_acceptedTimes hrun
  rw [← List.getLastD_eq_getLast?, hpresses]
  exact ⟨debounced_acceptedTimes _ _, hpresses ▸ htime⟩

/-- Orders of two parts, one after the other, are an order of both (R58). -/
theorem isOrderOf_append {p q : Pending} {a b : List Issue} (ha : IsOrderOf p a) (hb : IsOrderOf q b) :
    IsOrderOf ⟨p.host ++ q.host, p.encoder ++ q.encoder, p.button ++ q.button, p.ticks + q.ticks⟩ (a ++ b) := by
  obtain ⟨ha1, ha2, ha3, ha4⟩ := ha
  obtain ⟨hb1, hb2, hb3, hb4⟩ := hb
  rw [IsOrderOf, hostPart_append, encoderPart_append, buttonPart_append, tickPart_append, ha1, ha2, ha3, ha4, hb1, hb2,
    hb3, hb4]
  exact ⟨rfl, rfl, rfl, rfl⟩

theorem isOrderOf_hosts (words : List (Opcode × Word)) :
    IsOrderOf ⟨words, [], [], 0⟩ (words.map fun w => Issue.host w.1 w.2) := by
  induction words with
  | nil => exact ⟨rfl, rfl, rfl, rfl⟩
  | cons w words ih =>
    obtain ⟨hhost, hothers⟩ := ih
    exact ⟨congrArg (w :: ·) hhost, hothers⟩

theorem isOrderOf_encoders (samples : List Sample) : IsOrderOf ⟨[], samples, [], 0⟩ (samples.map Issue.encoder) := by
  induction samples with
  | nil => exact ⟨rfl, rfl, rfl, rfl⟩
  | cons x samples ih =>
    obtain ⟨hhost, hencoder, hothers⟩ := ih
    exact ⟨hhost, congrArg (x :: ·) hencoder, hothers⟩

theorem isOrderOf_buttons (times : List Word) : IsOrderOf ⟨[], [], times, 0⟩ (times.map Issue.button) := by
  induction times with
  | nil => exact ⟨rfl, rfl, rfl, rfl⟩
  | cons now times ih =>
    obtain ⟨hhost, hencoder, hbutton, hticks⟩ := ih
    exact ⟨hhost, hencoder, congrArg (now :: ·) hbutton, hticks⟩

theorem isOrderOf_ticks (n : Nat) : IsOrderOf ⟨[], [], [], n⟩ (List.replicate n Issue.tick) := by
  induction n with
  | zero => exact ⟨rfl, rfl, rfl, rfl⟩
  | succ n ih =>
    obtain ⟨hhost, hencoder, hbutton, hticks⟩ := ih
    exact ⟨hhost, hencoder, hbutton, congrArg (· + 1) hticks⟩

/-- Agent after agent is one of the orders (R58). -/
theorem isOrderOf_agentByAgent (p : Pending) : IsOrderOf p (agentByAgent p) := by
  have h := isOrderOf_append (isOrderOf_append (isOrderOf_append (isOrderOf_hosts p.host) (isOrderOf_encoders p.encoder))
    (isOrderOf_buttons p.button)) (isOrderOf_ticks p.ticks)
  simp only [List.append_nil, List.nil_append, Nat.zero_add] at h
  exact h

/-- A run of all that is issued accepts what the filter keeps of the button's own times. -/
theorem acceptedPresses_of_order {p : Pending} {order : List Issue} (h : IsOrderOf p order) (s : State) :
    acceptedPresses order.length (s.withIncoming order) = acceptedTimes s.lastButtonEventTime p.button := by
  obtain ⟨-, -, hbutton, -⟩ := h
  obtain ⟨t, hrun⟩ := runFor_total order.length (s.withIncoming order)
  obtain ⟨hpresses, -⟩ := acceptedPresses_eq_acceptedTimes hrun
  rw [hpresses, State.withIncoming_incoming, List.take_length, hbutton]
  rfl

/-- Settles O37: every order accepts what the filter keeps of the button's own times. -/
theorem pressesAreAcceptedAlikeInEveryOrder : Obligations.PressesAreAcceptedAlikeInEveryOrder :=
  fun p => ⟨isOrderOf_agentByAgent p, fun s _ _ horder hother =>
    (acceptedPresses_of_order horder s).trans (acceptedPresses_of_order hother s).symm⟩

/-! ### No press is lost -/

/-- One step's balance: a drain hands out what it clears, an accepted press is counted once, and anything else moves
nothing. -/
theorem step_press_balance {k : Nat} {s t : State} (hstep : step s = .next t) :
    (s.buttonPressCount.toNat + (acceptedPresses (k + 1) s).length + drained k t) % 65536 =
      (drained (k + 1) s + t.buttonPressCount.toNat + (acceptedPresses k t).length) % 65536 := by
  by_cases hhost : ∃ o d, s.incoming = .host o d :: t.incoming
  · obtain ⟨o, d, hin⟩ := hhost
    rw [acceptedPresses_of_not_button hstep (by simp [hin]), drained_of_host hstep hin, ← step_host_balance hstep hin]
    omega
  · have hhost' : ∀ o d, s.incoming ≠ .host o d :: t.incoming := fun o d hin => hhost ⟨o, d, hin⟩
    rw [drained_of_not_host hstep hhost']
    by_cases hbutton : ∃ now, s.incoming = .button now :: t.incoming
    · obtain ⟨now, hin⟩ := hbutton
      rw [acceptedPresses_of_button hstep hin]
      obtain ⟨-, hcount, -⟩ | ⟨-, hcount, -⟩ := step_button_cases hstep hin
      · rw [if_neg (not_not.2 hcount), hcount]
        omega
      · rw [if_pos (hcount ▸ pressCount_add_one_ne _), hcount, BitVec.toNat_add, List.length_cons]
        simp only [BitVec.toNat_ofNat]
        omega
    · have hbutton' := not_exists.1 hbutton
      rw [acceptedPresses_of_not_button hstep hbutton', (step_keeps_presses hstep hbutton').2 hhost']
      omega

/-- Settles O36: the balance of each step, added up over the run. -/
theorem noAcceptedPressIsLost : Obligations.NoAcceptedPressIsLost := by
  intro k s t hrun
  induction k generalizing s with
  | zero =>
    cases hrun
    simp [acceptedPresses, drained]
  | succ k ih =>
    obtain ⟨u, hstep, hrest⟩ := exists_step_of_runFor_succ hrun
    have hfirst := step_press_balance (k := k) hstep
    have hlater := ih u hrest
    omega

end Sys2Proof.Machine
end

section
/-! PROOFS. Colour selection, the commands' operands, and what each operation may write (40_quadrature.md section 1, 43_host.md,
10_state.md section 7). -/

namespace Sys2Proof.Machine

/-! ### Colour selection -/

/-- With LED output disabled nothing is selected (R100). -/
theorem selectColor_of_disabled {s : State} (h : s.ledEnabled = false) (c : Rgb) : s.selectColor c = s := by
  simp [State.selectColor, h]

/-- With fading disabled the colour is shown at once (R100). -/
theorem selectColor_of_immediate {s : State} (h : s.ledEnabled = true) (hdiv : s.fadeDiv = 0#8) (c : Rgb) :
    s.selectColor c = { s with target := c, actual := c, ledOut := c } := by
  simp [State.selectColor, State.fadeEnabled, State.sink, h, hdiv]

/-- With fading enabled the colour becomes the target (R100). -/
theorem selectColor_of_fading {s : State} (h : s.ledEnabled = true) (hdiv : s.fadeDiv ≠ 0#8) (c : Rgb) :
    s.selectColor c = { s with target := c } := by
  simp [State.selectColor, State.fadeEnabled, h, hdiv]

/-- Settles O27: the divisor is 0 as a whole number exactly when it is the zero word. -/
theorem selectColorByEnableAndFadeMode : Obligations.SelectColorByEnableAndFadeMode := by
  refine fun s c => ⟨fun h => selectColor_of_disabled h c, fun h hdiv => ?_, fun h hdiv => ?_⟩
  · exact selectColor_of_immediate h (BitVec.eq_of_toNat_eq hdiv) c
  · exact selectColor_of_fading h (fun hzero => by simp [hzero] at hdiv) c

/-! ### The operands of the commands -/

/-- The enable operand is the lowest bit (R73). -/
theorem enableField_eq_ofNat (d : Word) : enableField d = BitVec.ofNat 1 d.toNat := by
  simp [enableField, BitVec.extractLsb']

/-- The divisor operand is the lowest byte (R73). -/
theorem divisorField_eq_ofNat (d : Word) : divisorField d = BitVec.ofNat 8 (d.toNat % 256) := by
  apply BitVec.eq_of_toNat_eq
  rw [divisorField_toNat, BitVec.toNat_ofNat, Nat.mod_mod]

/-- The fields of a colour operand as words (R72). -/
theorem rgbFields_eq_ofNat (d : Word) : redField d = BitVec.ofNat 8 (d.toNat / 65536) ∧
    greenField d = BitVec.ofNat 8 (d.toNat / 256) ∧ blueField d = BitVec.ofNat 8 d.toNat := by
  obtain ⟨hr, hg, hb⟩ := rgbFields_toNat d
  exact ⟨BitVec.eq_of_toNat_eq (hr.trans (BitVec.toNat_ofNat _ 8).symm),
    BitVec.eq_of_toNat_eq (hg.trans (BitVec.toNat_ofNat _ 8).symm),
    BitVec.eq_of_toNat_eq (hb.trans (BitVec.toNat_ofNat _ 8).symm)⟩

/-- Settles O18: the operand is the lowest bit, and each of its values has its own meaning. -/
theorem ledOutSwitchesTheSink : Obligations.LedOutSwitchesTheSink :=
  ⟨fun d => by rw [decode_host_makeWord, ← enableField_eq_ofNat]; rfl, exec_ledOut_off, exec_ledOut_on⟩

/-- Settles O19: the operand is the lowest byte, and it is stored. -/
theorem setFadeStoresTheDivisorOnly : Obligations.SetFadeStoresTheDivisorOnly :=
  ⟨fun d => by rw [decode_host_makeWord, ← divisorField_eq_ofNat]; rfl, exec_setFade⟩

/-- Settles O20: the command is a colour selection, whose cases are those of the LED enable and the divisor. -/
theorem setColorSelectsTheTriple : Obligations.SetColorSelectsTheTriple := by
  refine ⟨fun d => ?_, fun r g b s => ⟨fun h hdiv => ?_, fun h hdiv => ?_, fun h => ?_⟩⟩
  · obtain ⟨hr, hg, hb⟩ := rgbFields_eq_ofNat d
    rw [decode_host_makeWord, ← hr, ← hg, ← hb]
    rfl
  · rw [exec_setColor, selectColor_of_immediate h hdiv]
  · rw [exec_setColor, selectColor_of_fading h hdiv]
  · rw [exec_setColor, selectColor_of_disabled h]

/-- Settles O21: the commands store their triple, and each event is a selection of its preset, which becomes the target. -/
theorem presetCommandsStoreTheirTripleOnly : Obligations.PresetCommandsStoreTheirTripleOnly := by
  refine ⟨fun d r g b hr hg hb => ?_, fun r g b s => ⟨rfl, rfl, rfl⟩, fun now s h hlate => ?_,
    fun x s h => ⟨fun hcw => ?_, fun hccw => ?_⟩⟩
  · obtain ⟨hr', hg', hb'⟩ := rgbFields_eq_ofNat d
    rw [hr, hg, hb, ← hr', ← hg', ← hb']
    exact ⟨decode_host_makeWord 0x7#4 d, decode_host_makeWord 0x8#4 d, decode_host_makeWord 0x9#4 d⟩
  · exact ⟨_, exec_btnEdge_of_le_elapsed hlate, selectColor_target_of_ledEnabled (by exact h) _⟩
  · exact ⟨_, exec_qdecEdge_cw hcw, selectColor_target_of_ledEnabled (by exact h) _⟩
  · exact ⟨_, exec_qdecEdge_ccw hccw, selectColor_target_of_ledEnabled (by exact h) _⟩

/-! ### What each operation may write -/

/-- TICK at divisor 0 does nothing (R121). -/
theorem exec_tick_of_div_zero {s : State} (h : s.fadeDiv = 0#8) : exec .tick s = .next s := by
  simp [exec, execTick, State.fadeEnabled, h]

/-- TICK at any other divisor is counted before the gates (R122). -/
theorem exec_tick_of_div_ne_zero {s : State} (h : s.fadeDiv ≠ 0#8) : exec .tick s = .next s.countTick.gatedFade := by
  simp [exec, execTick, State.fadeEnabled, h]

/-- Settles O24: each operation's next state is written out, and the field lemmas of the shared operations say what it keeps. -/
theorem operationsWriteOnlyTheFieldsListed : Obligations.OperationsWriteOnlyTheFieldsListed := by
  intro i s t h
  cases i with
  | ledOut e => obtain rfl | rfl := enable_cases e <;> cases h <;> simp [Instr.issuer]
  | btnEdge now =>
    by_cases hb : (s.elapsed now).toNat < 150
    · cases (exec_btnEdge_of_elapsed_lt hb).symm.trans h
      simp
    · cases (exec_btnEdge_of_le_elapsed (not_lt.1 hb)).symm.trans h
      simp
  | tick =>
    by_cases hdiv : s.fadeDiv = 0#8
    · cases (exec_tick_of_div_zero hdiv).symm.trans h
      simp
    · cases (exec_tick_of_div_ne_zero hdiv).symm.trans h
      simp
  | _ =>
    cases h
    simp [Instr.issuer]

end Sys2Proof.Machine
end

section
/-! PROOFS. The fade engine: its gates, its step, and how many steps settle a channel (42_fade.md). -/

namespace Sys2Proof.Machine

/-! ### The gates -/

/-- A tick's word with any data decodes to TICK (R74, R120). -/
theorem decode_tickSource_makeWord (d : Word) : decode .tickSource (makeWord 0xE#4 d) = .ok .tick := by
  simp [decode]

/-- The counted tick in whole numbers (R122). -/
theorem countTick_tickCount_toNat (s : State) :
    s.countTick.tickCount.toNat = (s.tickCount.toNat + 1) % 4294967296 := by
  rw [State.countTick_tickCount, BitVec.toNat_add]
  rfl

/-- The counted tick as a word (R122). -/
theorem countTick_eq (s : State) : s.countTick = { s with tickCount := BitVec.ofNat 32 (s.tickCount.toNat + 1) } := by
  rw [BitVec.ofNat_add, BitVec.ofNat_toNat, BitVec.setWidth_eq]
  rfl

/-- With a gate closed a counted tick does nothing more (R123 to R125). -/
theorem gatedFade_of_closed {s : State} (h : s.ledEnabled = false ∨
    (∀ c, s.actual.get c = 255#8 ∧ s.target.get c = 255#8) ∨ s.tickCount.toNat % s.fadeDiv.toNat ≠ 0) : s.gatedFade = s := by
  obtain ⟨hled, ⟨c, hc⟩, hdue, -⟩ | ⟨-, heq⟩ := gatedFade_cases s
  · obtain hled' | hoff | hdue' := h
    · simp [hled'] at hled
    · simp [hoff c] at hc
    · exact absurd hdue hdue'
  · exact heq

/-- Past the gates a counted tick is a fade step (R123 to R126). -/
theorem gatedFade_of_open {s : State} (hled : s.ledEnabled = true)
    (hc : ∃ c, s.actual.get c ≠ 255#8 ∨ s.target.get c ≠ 255#8) (hdue : s.tickCount.toNat % s.fadeDiv.toNat = 0) :
    s.gatedFade = fadeStep s := by
  obtain ⟨-, -, -, heq⟩ | ⟨hled' | hoff | hdue', -⟩ := gatedFade_cases s
  · exact heq
  · simp [hled] at hled'
  · obtain ⟨c, hc⟩ := hc
    simp [hoff c] at hc
  · exact absurd hdue hdue'

/-- Settles O39: a closed gate of the counted state is a closed gate of the statement, with the count as a whole number. -/
theorem tickStopsAtItsGates : Obligations.TickStopsAtItsGates := by
  refine ⟨decode_tickSource_makeWord, fun s => exec_tick_of_div_zero, fun s hdiv hgate => ?_⟩
  rw [← countTick_tickCount_toNat] at hgate
  rw [exec_tick_of_div_ne_zero hdiv, gatedFade_of_closed (s := s.countTick) hgate, countTick_eq]

/-- Settles O40: past the gates the counted state takes a fade step, which is one step of each channel in whole numbers. -/
theorem fadeStepMovesEveryChannelByOne : Obligations.FadeStepMovesEveryChannelByOne := by
  intro s hdiv hled hc hdue
  rw [← countTick_tickCount_toNat] at hdue
  refine ⟨(fadeStep s).actual, (fadeStep s).target, ?_, fun c => ⟨?_, ?_⟩⟩
  · rw [exec_tick_of_div_ne_zero hdiv, gatedFade_of_open (s := s.countTick) hled hc hdue, countTick_eq]
    rfl
  · rw [fadeStep_actual_get, stepToward_toNat]
  · rw [fadeStep_target_get, advanceTarget_toNat, fadeStep_actual_get]

/-- Settles O41: a tick that changes a colour or the sink got past the gates, gate (2) among them. -/
theorem tickFadesOnlyOnMultiplesOfTheDivisor : Obligations.TickFadesOnlyOnMultiplesOfTheDivisor := by
  intro s t hexec hchanged
  by_cases hdiv : s.fadeDiv = 0#8
  · cases (exec_tick_of_div_zero hdiv).symm.trans hexec
    simp at hchanged
  · cases (exec_tick_of_div_ne_zero hdiv).symm.trans hexec
    have hpos : s.fadeDiv.toNat ≠ 0 := fun hzero => hdiv (BitVec.eq_of_toNat_eq hzero)
    have hlt := s.fadeDiv.isLt
    obtain ⟨-, -, hdue, -⟩ | ⟨-, heq⟩ := gatedFade_cases s.countTick
    · rw [State.gatedFade_tickCount]
      exact ⟨by omega, by omega, hdue⟩
    · simp [heq] at hchanged

/-- Settles O46: the count wraps to 0, a multiple of every divisor. -/
theorem tickCounterWrapAlwaysFades : Obligations.TickCounterWrapAlwaysFades := by
  intro s hcount hdiv hled hc
  have hwrap : s.countTick = { s with tickCount := 0#32 } := by
    rw [countTick_eq, hcount]
    rfl
  have hdue : s.countTick.tickCount.toNat % s.countTick.fadeDiv.toNat = 0 := by
    rw [hwrap]
    exact Nat.zero_mod _
  rw [exec_tick_of_div_ne_zero hdiv, gatedFade_of_open (s := s.countTick) hled hc hdue, hwrap]

/-! ### The fade step -/

/-- Settles O42: each channel's step reads and writes that channel only. -/
theorem channelOrderIsImmaterial : Obligations.ChannelOrderIsImmaterial := by
  intro c d s
  cases c <;> cases d <;> rfl

/-- What a fade step writes (R126, R127, R129). -/
theorem fadeStep_eq (s : State) : fadeStep s =
    { s with actual := (fadeStep s).actual, target := (fadeStep s).target, ledOut := (fadeStep s).ledOut } := rfl

/-- Settles O43: with every channel at 255 and its target at 255 no channel moves, and the sink shows the actual values
already. -/
theorem allOffGateIsUnobservable : Obligations.AllOffGateIsUnobservable := by
  rintro s ⟨hshown, -⟩ hled hoff
  have hactual : (fadeStep s).actual = s.actual := Rgb_eq_of_get fun c => by
    rw [fadeStep_actual_get, (hoff c).1, (hoff c).2]
    rfl
  have htarget : (fadeStep s).target = s.target := Rgb_eq_of_get fun c => by
    rw [fadeStep_target_get, (hoff c).1, (hoff c).2]
    rfl
  have hledOut : (fadeStep s).ledOut = s.ledOut := hactual.trans (hshown hled).symm
  rw [fadeStep_eq, hactual, htarget, hledOut]

/-! ### Settling -/

/-- The fade steps a channel still needs to settle at 255 (R132). -/
def remainingSteps (c : Channel) (s : State) : Nat := settlingSteps (s.actual.get c).toNat (s.target.get c).toNat

/-- In whole numbers, one step toward the target and its advance take one off the steps needed (R126, R127, R132). -/
theorem settlingSteps_step {a t a' t' : Nat} (ha : a < 256) (ht : t < 256)
    (ha' : a' = if a < t then a + 1 else if t < a then a - 1 else a)
    (ht' : t' = if t ≠ 255 ∧ a' = t then t + 1 else t) : settlingSteps a' t' = settlingSteps a t - 1 := by
  unfold settlingSteps
  split_ifs at ha' ht' <;> split_ifs <;> omega

/-- A fade step takes one off the steps a channel needs (R132). -/
theorem remainingSteps_fadeStep (c : Channel) (s : State) : remainingSteps c (fadeStep s) = remainingSteps c s - 1 := by
  refine settlingSteps_step (s.actual.get c).isLt (s.target.get c).isLt ?_ ?_
  · rw [fadeStep_actual_get, stepToward_toNat]
  · rw [fadeStep_target_get, advanceTarget_toNat, fadeStep_actual_get]

theorem remainingSteps_fadeSteps (c : Channel) (n : Nat) (s : State) :
    remainingSteps c (fadeSteps n s) = remainingSteps c s - n := by
  induction n generalizing s with
  | zero => rfl
  | succ n ih => rw [fadeSteps, ih, remainingSteps_fadeStep, Nat.sub_sub, Nat.add_comm]

/-- A channel has settled exactly when it needs no more steps (R132). -/
theorem settled_iff_remainingSteps (c : Channel) (s : State) : Settled c s ↔ remainingSteps c s = 0 := by
  have ha := (s.actual.get c).isLt
  have ht := (s.target.get c).isLt
  rw [Settled, ← BitVec.toNat_inj, ← BitVec.toNat_inj, remainingSteps, settlingSteps, BitVec.toNat_ofNat]
  split_ifs <;> omega

/-- No channel needs more than 510 steps (R132). -/
theorem remainingSteps_le (c : Channel) (s : State) : remainingSteps c s ≤ 510 := by
  have ha := (s.actual.get c).isLt
  rw [remainingSteps, settlingSteps]
  split_ifs <;> omega

/-- Settles O44: each fade step takes one off the steps needed, and a channel that needs none has settled. -/
theorem channelSettlesInExactlyTheStatedSteps : Obligations.ChannelSettlesInExactlyTheStatedSteps := by
  intro s c n
  rw [settled_iff_remainingSteps, remainingSteps_fadeSteps, Nat.sub_eq_zero_iff_le]
  exact ⟨Iff.rfl, remainingSteps_le c s⟩

end Sys2Proof.Machine
end

section
/-! PROOFS. The display: what each operation can do to the LED enable, the colours and the sink, and what runs keep of it
(42_fade.md section 4, 43_host.md). -/

namespace Sys2Proof.Machine

/-! ### What an operation can do to the display -/

/-- The fields of the block that the LEDs show or will show: the enable, the colours and the sink. -/
structure Display where
  enabled : Bool
  actual : Rgb
  target : Rgb
  sink : Rgb

def State.display (s : State) : Display := ⟨s.ledEnabled, s.actual, s.target, s.ledOut⟩

/-- States with the same display have the same four fields. -/
theorem display_eq_iff {s t : State} : t.display = s.display ↔
    t.ledEnabled = s.ledEnabled ∧ t.actual = s.actual ∧ t.target = s.target ∧ t.ledOut = s.ledOut := by
  rw [State.display, State.display, Display.mk.injEq]

/-- Colour selection reads only the display and the divisor (R100). -/
theorem selectColor_display_congr {s t : State} (hdisplay : t.display = s.display) (hdiv : t.fadeDiv = s.fadeDiv) (c : Rgb) :
    (t.selectColor c).display = (s.selectColor c).display := by
  obtain ⟨hled, hactual, htarget, hsink⟩ := display_eq_iff.1 hdisplay
  obtain ⟨h, heq⟩ | ⟨h, hzero, heq⟩ | ⟨h, hzero, heq⟩ := selectColor_cases s c
  · rw [heq, selectColor_of_disabled (hled.trans h), hdisplay]
  · rw [heq, selectColor_of_immediate (hled.trans h) (hdiv.trans hzero)]
    simp [State.display, hled]
  · rw [heq, selectColor_of_fading (hled.trans h) (hdiv ▸ hzero)]
    simp [State.display, hled, hactual, hsink]

/-- Everything an operation can do to the display: nothing, a colour selection, LED_OUT, or a fade step of a tick while LED
output is enabled. -/
theorem exec_display_cases {i : Instr} {s t : State} (h : exec i s = .next t) :
    t.display = s.display ∨
    (∃ c, t.display = (s.selectColor c).display) ∨
    (i = .ledOut 0#1 ∧ t.display = State.display { s with ledEnabled := false, ledOut := allOff }) ∨
    (i = .ledOut 1#1 ∧ t.display = State.display { s with ledEnabled := true, ledOut := s.actual }) ∨
    (s.ledEnabled = true ∧ t.display = (fadeStep s).display) := by
  cases i with
  | ledOut e =>
    obtain rfl | rfl := enable_cases e <;> cases h
    · exact .inr (.inr (.inl ⟨rfl, rfl⟩))
    · exact .inr (.inr (.inr (.inl ⟨rfl, rfl⟩)))
  | setColor r g b =>
    cases h
    exact .inr (.inl ⟨⟨r, g, b⟩, rfl⟩)
  | qdecEdge x =>
    cases h
    cases hturn : classify (signature x s.lastQuadratureSample) with
    | cw => exact .inr (.inl ⟨s.cwColor, selectColor_display_congr (by rfl) (by rfl) s.cwColor⟩)
    | ccw => exact .inr (.inl ⟨s.ccwColor, selectColor_display_congr (by rfl) (by rfl) s.ccwColor⟩)
    | ignored => exact .inl rfl
  | btnEdge now =>
    by_cases hb : (s.elapsed now).toNat < 150
    · cases (exec_btnEdge_of_elapsed_lt hb).symm.trans h
      exact .inl rfl
    · cases (exec_btnEdge_of_le_elapsed (not_lt.1 hb)).symm.trans h
      exact .inr (.inl ⟨s.pressColor, selectColor_display_congr (by rfl) (by rfl) s.pressColor⟩)
  | tick =>
    by_cases hdiv : s.fadeDiv = 0#8
    · cases (exec_tick_of_div_zero hdiv).symm.trans h
      exact .inl rfl
    · cases (exec_tick_of_div_ne_zero hdiv).symm.trans h
      obtain ⟨hled, -, -, heq⟩ | ⟨-, heq⟩ := gatedFade_cases s.countTick <;> rw [heq]
      · exact .inr (.inr (.inr (.inr ⟨hled, rfl⟩)))
      · exact .inl rfl
  | _ =>
    cases h
    exact .inl rfl

/-! ### The sink shows the actual values -/

/-- The invariant of the sink speaks of the display only. -/
theorem ledOutFollowsActual_congr {s t : State} (hdisplay : t.display = s.display) (hs : LedOutFollowsActual s) :
    LedOutFollowsActual t := by
  obtain ⟨hled, hactual, -, hsink⟩ := display_eq_iff.1 hdisplay
  rwa [LedOutFollowsActual, hled, hactual, hsink]

/-- Colour selection keeps the invariant of the sink (R100, R131). -/
theorem selectColor_keeps_ledOutFollowsActual {s : State} (hs : LedOutFollowsActual s) (c : Rgb) :
    LedOutFollowsActual (s.selectColor c) := by
  obtain ⟨-, heq⟩ | ⟨hled, -, heq⟩ | ⟨-, -, heq⟩ := selectColor_cases s c <;> rw [heq]
  · exact hs
  · exact ⟨fun _ => rfl, fun hoff => by simp [hled] at hoff⟩
  · exact hs

/-- Every operation keeps the invariant of the sink (R131). -/
theorem exec_keeps_ledOutFollowsActual {i : Instr} {s t : State} (hs : LedOutFollowsActual s) (h : exec i s = .next t) :
    LedOutFollowsActual t := by
  obtain hsame | ⟨c, hselect⟩ | ⟨-, hoff⟩ | ⟨-, hon⟩ | ⟨hled, hfade⟩ := exec_display_cases h
  · exact ledOutFollowsActual_congr hsame hs
  · exact ledOutFollowsActual_congr hselect (selectColor_keeps_ledOutFollowsActual hs c)
  · exact ledOutFollowsActual_congr hoff ⟨fun hled => by simp at hled, fun _ => rfl⟩
  · exact ledOutFollowsActual_congr hon ⟨fun _ => rfl, fun hled => by simp at hled⟩
  · exact ledOutFollowsActual_congr hfade ⟨fun _ => rfl, fun hled' => by simp [hled] at hled'⟩

theorem perform_keeps_ledOutFollowsActual {op : Issue} {s t : State} (hs : LedOutFollowsActual s)
    (h : perform op s = .next t) : LedOutFollowsActual t := by
  obtain ⟨i, -, hexec⟩ | ⟨o, d, -, -, hrespond⟩ := perform_cases op
  · exact exec_keeps_ledOutFollowsActual hs ((congrFun hexec s).symm.trans h)
  · cases (hrespond s).symm.trans h
    exact hs

/-- Settles O47: a step performs one operation, and each of the ways it can change the display keeps the invariant. -/
theorem stepKeepsTheSinkShowingActual : Obligations.StepKeepsTheSinkShowingActual := by
  intro s t hs hstep
  obtain ⟨-, rfl⟩ | ⟨op, -, hop⟩ := step_cases hstep
  · exact hs
  · exact perform_keeps_ledOutFollowsActual (s := s.withIncoming t.incoming) hs hop

/-- Settles O48: at reset LED output is enabled, and sink and actual values are all off. -/
theorem resetSinkShowsActual : Obligations.ResetSinkShowsActual :=
  ⟨fun _ => rfl, fun _ => rfl⟩

/-- Every run keeps the invariant of the sink (R131). -/
theorem runFor_keeps_ledOutFollowsActual {k : Nat} {s t : State} (hs : LedOutFollowsActual s) (h : runFor k s = .next t) :
    LedOutFollowsActual t :=
  runFor_keeps (P := LedOutFollowsActual) (Q := fun _ => True) (fun _ _ hs => hs)
    (fun _ hs hop => perform_keeps_ledOutFollowsActual hs hop) h (fun _ _ => trivial) hs

/-! ### Disabled LED output -/

/-- Only a host word that enables decodes to LED_OUT 1 (R73, R144). -/
theorem enablesLeds_of_decode {op : Issue} (h : decode (agentOf op) (wordOf op) = .ok (.ledOut 1#1)) :
    enablesLeds op = true := by
  obtain ⟨hissuer, hop, -⟩ := decode_ok h
  cases op with
  | host o d =>
    rw [wordOf, opField_makeWord] at hop
    subst hop
    have henable : enableField d = 1#1 := by simpa [agentOf, wordOf, decodeHost, opcodeOf] using h
    simp [enablesLeds, opcodeOf, henable]
  | _ => cases hissuer

/-- While LED output is disabled only LED_OUT 1 can change the display (R100, R123, R144). -/
theorem perform_keeps_display_of_disabled {op : Issue} {s t : State} (hshown : LedOutFollowsActual s)
    (hled : s.ledEnabled = false) (hop : enablesLeds op = false) (h : perform op s = .next t) : t.display = s.display := by
  obtain ⟨i, hdec, hexec⟩ | ⟨o, d, -, -, hrespond⟩ := perform_cases op
  · rw [hexec] at h
    obtain hsame | ⟨c, hselect⟩ | ⟨-, hoff⟩ | ⟨rfl, -⟩ | ⟨hled', -⟩ := exec_display_cases h
    · exact hsame
    · rw [hselect, selectColor_of_disabled hled]
    · exact hoff.trans (display_eq_iff.2 ⟨hled.symm, rfl, rfl, (hshown.2 hled).symm⟩)
    · simp [enablesLeds_of_decode hdec] at hop
    · simp [hled] at hled'
  · cases (hrespond s).symm.trans h
    rfl

/-- Settles O49: a run without an enabling LED_OUT keeps the whole display, whose sink is all off. -/
theorem disabledLedsStayOffAndHoldTheColors : Obligations.DisabledLedsStayOffAndHoldTheColors := by
  intro k s t hshown hled hops hrun
  have hoff : s.ledOut = allOff := hshown.2 hled
  have hkept : t.display = s.display := by
    refine runFor_keeps (P := fun v => v.display = s.display) (fun _ _ h => h) ?_ hrun hops rfl
    intro op v w hop hv hperform
    have hled' : v.ledEnabled = false := (display_eq_iff.1 hv).1.trans hled
    exact (perform_keeps_display_of_disabled (ledOutFollowsActual_congr hv hshown) hled' hop hperform).trans hv
  obtain ⟨hled', hactual, htarget, hsink⟩ := display_eq_iff.1 hkept
  refine ⟨hled'.trans hled, ?_, hactual, htarget, ?_⟩
  · rw [State.outputs, hsink, hoff]
    rfl
  · rw [exec_ledOut_on, hactual]

/-! ### Disabled fading -/

/-- A host word other than LED_OUT, SET_FADE and SET_COLOR leaves the colours, the sink, the tick count and the divisor
(10_state.md section 7). -/
theorem perform_host_keeps_display {o : Opcode} {d : Word} {s t : State} (ho : o ∉ [0x4#4, 0x5#4, 0x6#4])
    (h : perform (.host o d) s = .next t) :
    t.actual = s.actual ∧ t.target = s.target ∧ t.ledOut = s.ledOut ∧ t.tickCount = s.tickCount ∧
      t.fadeDiv = s.fadeDiv := by
  obtain ⟨i, hdec, hexec⟩ | ⟨o, d, -, -, hrespond⟩ := perform_cases (.host o d)
  · obtain ⟨hissuer, hop, -⟩ := decodeHost_ok ((decode_host_makeWord o d).symm.trans hdec)
    obtain ⟨-, -, -, -, hcolors, -, -, -, hdiv, -, htick, hsink, -, -⟩ :=
      operationsWriteOnlyTheFieldsListed i s t ((congrFun hexec s).symm.trans h)
    have hcommand {j : Instr} (hj : opcodeOf j ∈ [0x4#4, 0x5#4, 0x6#4]) : i ≠ j := fun hij => ho (hop ▸ hij ▸ hj)
    have hevent {j : Instr} (hj : j.issuer ≠ .host) : i ≠ j := fun hij => hj (hij ▸ hissuer)
    have hedge (x : Sample) : i ≠ .qdecEdge x := hevent (by simp [Instr.issuer])
    have hpress (now : Word) : i ≠ .btnEdge now := hevent (by simp [Instr.issuer])
    have hnotick : i ≠ .tick := hevent (by simp [Instr.issuer])
    have hcolor (r g b : Byte) : i ≠ .setColor r g b := hcommand (by simp [opcodeOf])
    have hled (e : BitVec 1) : i ≠ .ledOut e := hcommand (by simp [opcodeOf])
    obtain ⟨hactual, htarget⟩ := hcolors hedge hpress hnotick hcolor
    exact ⟨hactual, htarget, hsink hedge hpress hnotick hcolor hled, htick hnotick,
      hdiv fun n => hcommand (by simp [opcodeOf])⟩
  · cases (hrespond s).symm.trans h
    exact ⟨rfl, rfl, rfl, rfl, rfl⟩

/-- Settles O50: with the divisor 0 a tick does nothing, and the host words that are left write none of these fields. -/
theorem disabledFadingFreezesTheDisplay : Obligations.DisabledFadingFreezesTheDisplay := by
  intro k s t hdiv hops hrun
  refine runFor_keeps (P := fun v => v.actual = s.actual ∧ v.target = s.target ∧ v.ledOut = s.ledOut ∧
    v.tickCount = s.tickCount ∧ v.fadeDiv = 0#8) (fun _ _ h => h) ?_ hrun hops ⟨rfl, rfl, rfl, rfl, hdiv⟩
  rintro op v w hop hv hperform
  obtain rfl | ⟨o, d, rfl, ho⟩ := hop
  · have ⟨_, _, _, _, hzero⟩ := hv
    rw [perform_tick] at hperform
    cases (exec_tick_of_div_zero hzero).symm.trans hperform
    exact hv
  · obtain ⟨hactual, htarget, hsink, htick, hdiv'⟩ := perform_host_keeps_display ho hperform
    rwa [hactual, htarget, hsink, htick, hdiv']

end Sys2Proof.Machine
end

section
/-! PROOFS. Convergence: ticks bring the LEDs to rest (42_fade.md sections 2 and 4). -/

namespace Sys2Proof.Machine

/-! ### One tick -/

/-- What a tick does while fading is enabled: it is counted, and the gates decide (R120 to R125). -/
def enabledTick (s : State) : State := s.countTick.gatedFade

theorem perform_tick_of_div_ne_zero {s : State} (h : s.fadeDiv ≠ 0#8) : perform .tick s = .next (enabledTick s) :=
  (perform_tick s).trans (exec_tick_of_div_ne_zero h)

@[simp] theorem enabledTick_fadeDiv (s : State) : (enabledTick s).fadeDiv = s.fadeDiv := by simp [enabledTick]

@[simp] theorem enabledTick_ledEnabled (s : State) : (enabledTick s).ledEnabled = s.ledEnabled := by simp [enabledTick]

theorem enabledTick_tickCount_toNat (s : State) : (enabledTick s).tickCount.toNat = (s.tickCount.toNat + 1) % 4294967296 := by
  rw [enabledTick, State.gatedFade_tickCount, countTick_tickCount_toNat]

/-- A tick adds nothing to the steps a channel needs. -/
theorem remainingSteps_enabledTick_le (c : Channel) (s : State) : remainingSteps c (enabledTick s) ≤ remainingSteps c s := by
  rw [enabledTick]
  obtain ⟨-, -, -, heq⟩ | ⟨-, heq⟩ := gatedFade_cases s.countTick <;> rw [heq]
  · exact (remainingSteps_fadeStep c s.countTick).trans_le (Nat.sub_le _ _)
  · exact le_rfl

/-- A tick whose count is a multiple of the divisor takes one off the steps a channel needs, if it needs any: past the gates
it is a fade step, and where gate (1) is closed the channel needs none. -/
theorem remainingSteps_enabledTick_of_due {s : State} (hled : s.ledEnabled = true)
    (hdue : (s.tickCount.toNat + 1) % 4294967296 % s.fadeDiv.toNat = 0) (c : Channel) :
    remainingSteps c (enabledTick s) = remainingSteps c s - 1 := by
  rw [← countTick_tickCount_toNat] at hdue
  rw [enabledTick]
  obtain ⟨-, -, -, heq⟩ | ⟨hled' | hoff | hdue', heq⟩ := gatedFade_cases s.countTick <;> rw [heq]
  · exact remainingSteps_fadeStep c s.countTick
  · simp [hled] at hled'
  · have hsettled : remainingSteps c s = 0 := (settled_iff_remainingSteps c s).1 (hoff c)
    have hcounted : remainingSteps c s.countTick = 0 := hsettled
    rw [hsettled, hcounted]
  · exact absurd hdue hdue'

/-! ### Ticks in a row -/

theorem iterate_enabledTick_fadeDiv (k : Nat) (s : State) : (enabledTick^[k] s).fadeDiv = s.fadeDiv := by
  induction k with
  | zero => rfl
  | succ k ih => rw [Function.iterate_succ_apply', enabledTick_fadeDiv, ih]

theorem iterate_enabledTick_ledEnabled (k : Nat) (s : State) : (enabledTick^[k] s).ledEnabled = s.ledEnabled := by
  induction k with
  | zero => rfl
  | succ k ih => rw [Function.iterate_succ_apply', enabledTick_ledEnabled, ih]

theorem iterate_enabledTick_tickCount_toNat (k : Nat) (s : State) :
    (enabledTick^[k] s).tickCount.toNat = (s.tickCount.toNat + k) % 4294967296 := by
  induction k with
  | zero => exact (Nat.mod_eq_of_lt s.tickCount.isLt).symm
  | succ k ih => rw [Function.iterate_succ_apply', enabledTick_tickCount_toNat, ih, Nat.mod_add_mod, Nat.add_assoc]

theorem remainingSteps_iterate_enabledTick_le (c : Channel) (k : Nat) (s : State) :
    remainingSteps c (enabledTick^[k] s) ≤ remainingSteps c s := by
  induction k with
  | zero => exact le_rfl
  | succ k ih =>
    rw [Function.iterate_succ_apply']
    exact (remainingSteps_enabledTick_le c _).trans ih

/-- Among any `n` counts in a row, modulo 2^32, one is a multiple of `n`: the next multiple, or 0 where the count wraps. -/
theorem exists_due_count (count : Nat) {n : Nat} (hn : 0 < n) (hcount : count < 4294967296) :
    ∃ i < n, (count + i + 1) % 4294967296 % n = 0 := by
  by_cases hwrap : count + n < 4294967296
  · have hlt := Nat.mod_lt count hn
    have hdiv := Nat.div_add_mod count n
    refine ⟨n - 1 - count % n, by omega, ?_⟩
    have hnext : count + (n - 1 - count % n) + 1 = n * (count / n + 1) := by
      rw [Nat.mul_add, Nat.mul_one]
      omega
    rw [Nat.mod_eq_of_lt (b := 4294967296) (by omega), hnext, Nat.mul_mod_right]
  · refine ⟨4294967295 - count, by omega, ?_⟩
    have hzero : count + (4294967295 - count) + 1 = 4294967296 := by omega
    rw [hzero, Nat.mod_self, Nat.zero_mod]

/-- As many ticks as the divisor take one off the steps a channel needs, if it needs any: one of their counts is a multiple. -/
theorem remainingSteps_ticks_of_divisor {s : State} (hled : s.ledEnabled = true) (hdiv : 0 < s.fadeDiv.toNat) (c : Channel) :
    remainingSteps c (enabledTick^[s.fadeDiv.toNat] s) ≤ remainingSteps c s - 1 := by
  obtain ⟨i, hi, hdue⟩ := exists_due_count s.tickCount.toNat hdiv s.tickCount.isLt
  have hdue' : ((enabledTick^[i] s).tickCount.toNat + 1) % 4294967296 % (enabledTick^[i] s).fadeDiv.toNat = 0 := by
    rw [iterate_enabledTick_tickCount_toNat, iterate_enabledTick_fadeDiv, Nat.mod_add_mod, hdue]
  have hsplit : s.fadeDiv.toNat = (s.fadeDiv.toNat - (i + 1)) + (i + 1) := by omega
  calc remainingSteps c (enabledTick^[s.fadeDiv.toNat] s)
      = remainingSteps c (enabledTick^[s.fadeDiv.toNat - (i + 1)] (enabledTick (enabledTick^[i] s))) := by
        rw [← Function.iterate_succ_apply' enabledTick i, ← Function.iterate_add_apply, ← hsplit]
    _ ≤ remainingSteps c (enabledTick (enabledTick^[i] s)) := remainingSteps_iterate_enabledTick_le c _ _
    _ = remainingSteps c (enabledTick^[i] s) - 1 :=
        remainingSteps_enabledTick_of_due ((iterate_enabledTick_ledEnabled i s).trans hled) hdue' c
    _ ≤ remainingSteps c s - 1 := Nat.sub_le_sub_right (remainingSteps_iterate_enabledTick_le c i s) 1

/-- `m` times the divisor ticks take `m` off the steps a channel needs. -/
theorem remainingSteps_ticks {s : State} (hled : s.ledEnabled = true) (hdiv : 0 < s.fadeDiv.toNat) (c : Channel) (m : Nat) :
    remainingSteps c (enabledTick^[m * s.fadeDiv.toNat] s) ≤ remainingSteps c s - m := by
  induction m with
  | zero => rw [Nat.zero_mul, Nat.sub_zero, Function.iterate_zero_apply]
  | succ m ih =>
    have hdiv' := iterate_enabledTick_fadeDiv (m * s.fadeDiv.toNat) s
    have hlast := remainingSteps_ticks_of_divisor (s := enabledTick^[m * s.fadeDiv.toNat] s)
      ((iterate_enabledTick_ledEnabled _ s).trans hled) (by rwa [hdiv']) c
    rw [hdiv', ← Function.iterate_add_apply] at hlast
    rw [Nat.succ_mul, Nat.add_comm]
    omega

/-! ### A run of ticks -/

theorem enabledTick_withIncoming (s : State) (ops : List Issue) :
    enabledTick (s.withIncoming ops) = (enabledTick s).withIncoming ops :=
  gatedFade_withIncoming s.countTick ops

/-- With fading enabled, a run of ticks performs each of them and takes them from the input. -/
theorem runFor_ticks {k : Nat} {s : State} {rest : List Issue} (hdiv : s.fadeDiv ≠ 0#8)
    (hin : s.incoming = List.replicate k Issue.tick ++ rest) :
    runFor k s = .next ((enabledTick^[k] s).withIncoming rest) := by
  induction k generalizing s with
  | zero => exact congrArg _ (State.withIncoming_self hin).symm
  | succ k ih =>
    rw [List.replicate_succ, List.cons_append] at hin
    have hstep := (step_of_incoming_cons hin).trans (perform_tick_of_div_ne_zero hdiv)
    rw [enabledTick_withIncoming] at hstep
    have hcomm : Function.Commute enabledTick (fun t : State => t.withIncoming (List.replicate k .tick ++ rest)) :=
      fun t => enabledTick_withIncoming t _
    have hrun := ih (s := (enabledTick s).withIncoming (List.replicate k .tick ++ rest))
      (by simpa using hdiv) (State.withIncoming_incoming _ _)
    rw [(hcomm.iterate_left k).eq (enabledTick s)] at hrun
    rw [runFor_succ_of_step hstep, hrun, Function.iterate_succ_apply, State.withIncoming_withIncoming]

/-- A triple whose channels are all fully off. -/
theorem Rgb_eq_allOff {x : Rgb} (h : ∀ c, x.get c = 255#8) : x = allOff :=
  Rgb_eq_of_get fun c => by
    rw [h c]
    cases c <;> rfl

/-- Settles O45: 510 times the divisor ticks take 510 off the steps each channel needs, which are at most 510, and the sink
shows the actual values. -/
theorem ticksBringTheLedsToRest : Obligations.TicksBringTheLedsToRest := by
  intro s rest hled hdiv hshown hin
  have hpos : 0 < s.fadeDiv.toNat := Nat.pos_of_ne_zero fun hzero => hdiv (BitVec.eq_of_toNat_eq hzero)
  have hrun := runFor_ticks hdiv hin
  have hrest (c : Channel) : Settled c (enabledTick^[510 * s.fadeDiv.toNat] s) := by
    have hsteps := remainingSteps_ticks hled hpos c 510
    have hbound := remainingSteps_le c s
    exact (settled_iff_remainingSteps c _).2 (by omega)
  have hactual := Rgb_eq_allOff fun c => (hrest c).1
  have htarget := Rgb_eq_allOff fun c => (hrest c).2
  have hled' := (iterate_enabledTick_ledEnabled (510 * s.fadeDiv.toNat) s).trans hled
  have hsink := (runFor_keeps_ledOutFollowsActual hshown hrun).1 hled'
  exact ⟨_, hrun, hactual, htarget, hsink.trans hactual, rfl⟩

end Sys2Proof.Machine
end

section
/-! PROOFS. Reset, and what no operation does: stop (70_reset_and_hazards.md section 1, 60_exceptions.md section 1). -/

namespace Sys2Proof.Machine

/-- Settles O1: reset asserted on any state leaves every field of the block as the state after reset has it. -/
theorem resetLeavesTheTabledValues : Obligations.ResetLeavesTheTabledValues := by
  have hchannels (c : Channel) : Rgb.get ⟨255#8, 255#8, 255#8⟩ c = 255#8 := by cases c <;> rfl
  rintro t (rfl | ⟨s, rfl⟩) <;>
    exact ⟨BitVec.toInt_zero, rfl, rfl, rfl, hchannels, hchannels, rfl, rfl, rfl, rfl, rfl, rfl, hchannels, rfl⟩

/-- An opcode is reserved when it is 0x0 or at least 0xA (R76). -/
theorem mem_reservedOpcodes : ∀ op : Opcode, op = 0x0#4 ∨ 0xA#4 ≤ op → op ∈ reservedOpcodes := by decide

/-- The count after an edge along the clockwise order is one more (R101). -/
theorem exists_exec_qdecEdge_cw {x : Sample} {s : State} (h : (s.lastQuadratureSample, x) ∈ clockwise) :
    ∃ t, exec (.qdecEdge x) s = .next t ∧ t.rotationCount = s.rotationCount + 1#32 :=
  ⟨_, exec_qdecEdge_cw h, State.selectColor_rotationCount _ _⟩

/-- The count after an edge against the clockwise order is one less (R101). -/
theorem exists_exec_qdecEdge_ccw {x : Sample} {s : State} (h : (x, s.lastQuadratureSample) ∈ clockwise) :
    ∃ t, exec (.qdecEdge x) s = .next t ∧ t.rotationCount = s.rotationCount - 1#32 :=
  ⟨_, exec_qdecEdge_ccw h, State.selectColor_rotationCount _ _⟩

/-- Settles O13: every operation and every run answers, and each condition is one of the operations' own cases. -/
theorem nothingRaisesAnExceptionOrHalts : Obligations.NothingRaisesAnExceptionOrHalts := by
  refine ⟨exec_total, runFor_total, fun x s => exec_qdecEdge_ignored, fun now s => exec_btnEdge_of_elapsed_lt,
    fun s hdiv => exec_tick_of_div_zero (BitVec.eq_of_toNat_eq hdiv), fun s hmax hlast => ?_, fun s hmin hlast => ?_,
    fun now s hmax hlate => ?_, fun op d s rest hop => step_of_reserved (mem_reservedOpcodes op hop)⟩
  · obtain ⟨t, ht, hrot⟩ := exists_exec_qdecEdge_cw (x := 0b01#2) (s := s) (by rw [hlast]; decide)
    have hpattern : s.rotationCount = 0x7FFFFFFF#32 := BitVec.eq_of_toInt_eq (hmax.trans (by decide))
    exact ⟨t, ht, by rw [hrot, hpattern]; decide⟩
  · obtain ⟨t, ht, hrot⟩ := exists_exec_qdecEdge_ccw (x := 0b00#2) (s := s) (by rw [hlast]; decide)
    have hpattern : s.rotationCount = 0x80000000#32 := BitVec.eq_of_toInt_eq (hmin.trans (by decide))
    exact ⟨t, ht, by rw [hrot, hpattern]; decide⟩
  · refine ⟨_, exec_btnEdge_of_le_elapsed hlate, ?_⟩
    rw [State.selectColor_buttonPressCount, hmax]
    rfl

end Sys2Proof.Machine
end
